-- ==== Sys2Proof/Word.lean ====
section
/-! DEFINITION. Bytes and words (00_scope.md R4, R5): a byte is 8 bits, a word 16. -/

namespace Sys2Proof

/-- A byte: the width `XLEN` of A, X, Y, SP and of every data operand (00_scope.md R4, R5). -/
abbrev Byte := BitVec 8

/-- A word: the width `ALEN` of PC and of every address (00_scope.md R4, R5). -/
abbrev Word := BitVec 16

end Sys2Proof
end

