-- ==== Sys2Proof/Config.lean ====
section
/-! DEFINITION. The implementation parameters of 00_scope.md R4: a configuration record, the initial register values, and the
uninterpreted decimal functions. -/

namespace Sys2Proof

/-- What `MemMap` says of a range of addresses (20_memory.md R51). A device is not among the kinds: its behaviour is the
platform's and out of scope (00_scope.md R3 (d)). -/
inductive RegionKind
  /-- Reads give the byte last written; writes stick. -/
  | ram
  /-- Reads give the initial content; a write has no effect on later reads. -/
  | rom
  /-- Nothing answers there: a read gives the byte `reads` the map names, a write has no effect. -/
  | unpopulated (reads : Byte)
  deriving DecidableEq, Repr

/-- One range of the memory map: the `size` addresses from `base` on. -/
structure Region where
  base : Nat
  size : Nat
  kind : RegionKind
  deriving DecidableEq, Repr

/-- The configuration record of 00_scope.md R4, its OPEN parameters among the fields. The machine holds one and never
writes it, so a statement about every state is a statement about every configuration (log 8). -/
structure Config where
  /-- `VEC_IRQ`, the address of the two-byte IRQ vector (60_exceptions.md R236). -/
  vecIrq : Word
  /-- `VEC_NMI`, the address of the two-byte NMI vector (60_exceptions.md R236). -/
  vecNmi : Word
  /-- `VEC_BRK`, the address of the two-byte vector BRK uses (49_interrupt_other.md R220). -/
  vecBrk : Word
  /-- `VEC_RESET`, the address of the two-byte reset vector (70_reset_and_hazards.md R260). -/
  vecReset : Word
  /-- `JMP_IND_PAGE_WRAP`: a pointer at `$xxFF` takes its high byte from `$xx00` (30_encoding.md R93). -/
  jmpIndPageWrap : Bool
  /-- `MemMap`, the first region that holds an address deciding; an address in no region is RAM (20_memory.md R51). -/
  memMap : List Region
  deriving DecidableEq, Repr

/-- The parameter values of 00_scope.md R4. The two hardware vectors are the spec's contested defaults (C6, log 6);
`vecReset` is PRESUMED, `$FFFC` (log 5); `jmpIndPageWrap` is R4's default (log 7); the map is all RAM (log 9). -/
def Config.default : Config where
  vecIrq := 0xFFFA
  vecNmi := 0xFFFE
  vecBrk := 0xFFFE
  vecReset := 0xFFFC
  jmpIndPageWrap := true
  memMap := []

/-- What the map says of address `a` (20_memory.md R51): the first region that holds it, else RAM (D2). -/
def Config.kindAt (cfg : Config) (a : Nat) : RegionKind :=
  match cfg.memMap.find? (fun r => decide (r.base ≤ a) && decide (a < r.base + r.size)) with
  | some r => r.kind
  | none => .ram

/-- `STACK_BASE`, the address of the stack page (00_scope.md R4, 20_memory.md R46). -/
def Config.stackBase : Word := 0x0100

/-- `InitialState`: the values reset leaves open (00_scope.md R4, 10_state.md R27). -/
structure InitialState where
  a : Byte
  x : Byte
  y : Byte
  sp : Byte
  n : Bool
  v : Bool
  d : Bool
  z : Bool
  c : Bool
  deriving DecidableEq, Repr

/-- DESIGN CHOICE (log 3): the values `State.reset` takes where 10_state.md R27 says unspecified. -/
def InitialState.zeros : InitialState where
  a := 0
  x := 0
  y := 0
  sp := 0
  n := false
  v := false
  d := false
  z := false
  c := false

/-- The tuple an arithmetic operation answers: the result byte and the flags C, N, V, Z (43_arithmetic.md R153). -/
structure ArithResult where
  r : Byte
  c : Bool
  n : Bool
  v : Bool
  z : Bool
  deriving DecidableEq, Repr, Inhabited

/-- `DecimalADC(a, m, c)` of 43_arithmetic.md R153, uninterpreted: it depends on its three arguments alone and nothing else
is known of it. DESIGN CHOICE (log 1). -/
opaque Config.decimalAdc : Byte → Byte → Bool → ArithResult

/-- `DecimalSBC(a, m, c)` of 43_arithmetic.md R153, uninterpreted. DESIGN CHOICE (log 1). -/
opaque Config.decimalSbc : Byte → Byte → Bool → ArithResult

end Sys2Proof
end

