-- ==== Sys2Proof/Machine/Flags.lean ====
section
/-! DEFINITION. Flag and result computations as functions of bytes and flags: the status byte (10_state.md R18), N and Z of a
result (R20), binary addition and subtraction (43_arithmetic.md R151, R152), comparison (47_compare.md R190), shifts and
rotates (45_shift_rotate.md R170 to R173), and the bit test (49_interrupt_other.md R222). -/

namespace Sys2Proof.Machine

/-- `N` of a result byte: its bit 7 (10_state.md R20). -/
def negativeFlag (r : Byte) : Bool := r.getLsbD 7

/-- `Z` of a result byte: 1 exactly when it is zero (10_state.md R20). -/
def zeroFlag (r : Byte) : Bool := decide (r = 0)

/-- `SRByte(b)`: the status byte as pushed, `b` the break flag, bit 5 always 1 (00_scope.md R7, 10_state.md R18). -/
def statusByte (n v b d i z c : Bool) : Byte :=
  BitVec.ofNat 8 (n.toNat * 128 + v.toNat * 64 + 32 + b.toNat * 16 + d.toNat * 8 + i.toNat * 4 + z.toNat * 2 + c.toNat)

/-- Binary `A + m + C` with its flags (43_arithmetic.md R151): the exact sum, then the byte, the carry out of bit 7 and the
signed overflow by R151's formula. -/
def adcBinary (a m : Byte) (c : Bool) : ArithResult :=
  let t := a.toNat + m.toNat + c.toNat
  let r := BitVec.ofNat 8 t
  { r := r, c := decide (256 ≤ t), n := negativeFlag r, v := ((a ^^^ r) &&& (m ^^^ r)).getLsbD 7, z := zeroFlag r }

/-- Binary `A - m - (1 - C)` with its flags (43_arithmetic.md R152): the exact difference, then the byte, C = 1 for no
borrow, and the signed overflow by R152's formula. -/
def sbcBinary (a m : Byte) (c : Bool) : ArithResult :=
  let t : Int := (a.toNat : Int) - (m.toNat : Int) - (1 - (c.toNat : Int))
  let r := BitVec.ofInt 8 t
  { r := r, c := decide (0 ≤ t), n := negativeFlag r, v := ((a ^^^ m) &&& (a ^^^ r)).getLsbD 7, z := zeroFlag r }

/-- The 8-bit difference `Compare(R, m)` takes its N from (47_compare.md R190). -/
def compareDifference (reg m : Byte) : Byte := BitVec.ofInt 8 ((reg.toNat : Int) - (m.toNat : Int))

/-- `C` of `Compare(R, m)`: the unsigned `R >= m` (47_compare.md R190). -/
def compareCarry (reg m : Byte) : Bool := decide (m.toNat ≤ reg.toNat)

/-- `Z` of `Compare(R, m)`: equality (47_compare.md R190). -/
def compareZero (reg m : Byte) : Bool := decide (reg = m)

/-- The byte and the carry a shift or rotate answers (45_shift_rotate.md). -/
structure ShiftResult where
  r : Byte
  c : Bool
  deriving DecidableEq, Repr

/-- ASL of `v`: doubled modulo 256, bit 7 to the carry; the old carry is not used (45_shift_rotate.md R170). -/
def aslResult (v : Byte) (_ : Bool) : ShiftResult :=
  { r := BitVec.ofNat 8 (v.toNat * 2), c := v.getLsbD 7 }

/-- LSR of `v`: halved, bit 0 to the carry; the old carry is not used (45_shift_rotate.md R171). -/
def lsrResult (v : Byte) (_ : Bool) : ShiftResult :=
  { r := BitVec.ofNat 8 (v.toNat / 2), c := v.getLsbD 0 }

/-- ROL of `v` with the old carry `c` entering at bit 0 (45_shift_rotate.md R172). -/
def rolResult (v : Byte) (c : Bool) : ShiftResult :=
  { r := BitVec.ofNat 8 (v.toNat * 2 % 256 + c.toNat), c := v.getLsbD 7 }

/-- ROR of `v` with the old carry `c` entering at bit 7 (45_shift_rotate.md R173, 90_conflicts.md C1). -/
def rorResult (v : Byte) (c : Bool) : ShiftResult :=
  { r := BitVec.ofNat 8 (v.toNat / 2 + 128 * c.toNat), c := v.getLsbD 0 }

end Sys2Proof.Machine
end

