-- ==== Sys2Proof/Syntax.lean ====
section
/-! DEFINITION. The instructions: one constructor of `Instr` per row of spec/opcode_table.json (30_encoding.md R75), the
thirteen addressing modes (R80), the 56 mnemonics, and the assembler forms (R95). -/

namespace Sys2Proof

/-- The thirteen addressing modes, named as the spec names them (30_encoding.md R80). -/
inductive Mode
  | implied | accumulator | immediate | zeropage | zeropageX | zeropageY | absolute | absoluteX | absoluteY
  | relative | indirectX | indirectY | indirect
  deriving DecidableEq, Repr

/-- An operand: an addressing mode with the operand byte `b1` or the operand word `w` it carries (30_encoding.md R71, R72,
R80). -/
inductive Operand
  | implied
  | accumulator
  | immediate (b : Byte)
  | zeropage (b : Byte)
  | zeropageX (b : Byte)
  | zeropageY (b : Byte)
  | absolute (w : Word)
  | absoluteX (w : Word)
  | absoluteY (w : Word)
  | relative (b : Byte)
  | indirectX (b : Byte)
  | indirectY (b : Byte)
  | indirect (w : Word)
  deriving DecidableEq, Repr

/-- The addressing mode of an operand. -/
def Operand.mode : Operand → Mode
  | .implied => .implied
  | .accumulator => .accumulator
  | .immediate _ => .immediate
  | .zeropage _ => .zeropage
  | .zeropageX _ => .zeropageX
  | .zeropageY _ => .zeropageY
  | .absolute _ => .absolute
  | .absoluteX _ => .absoluteX
  | .absoluteY _ => .absoluteY
  | .relative _ => .relative
  | .indirectX _ => .indirectX
  | .indirectY _ => .indirectY
  | .indirect _ => .indirect

/-- The length in bytes of an instruction in this mode (30_encoding.md R71): format F1, F2 or F3. -/
def Mode.length : Mode → Nat
  | .implied => 1
  | .accumulator => 1
  | .immediate => 2
  | .zeropage => 2
  | .zeropageX => 2
  | .zeropageY => 2
  | .relative => 2
  | .indirectX => 2
  | .indirectY => 2
  | .absolute => 3
  | .absoluteX => 3
  | .absoluteY => 3
  | .indirect => 3

/-- The 56 mnemonics (30_encoding.md R75). -/
inductive Mnemonic
  | adc | and | asl | bcc | bcs | beq | bit | bmi | bne | bpl | brk | bvc | bvs | clc
  | cld | cli | clv | cmp | cpx | cpy | dec | dex | dey | eor | inc | inx | iny | jmp
  | jsr | lda | ldx | ldy | lsr | nop | ora | pha | php | pla | plp | rol | ror | rti
  | rts | sbc | sec | sed | sei | sta | stx | sty | tax | tay | tsx | txa | txs | tya
  deriving DecidableEq, Repr

/-- The mnemonic as the opcode table spells it. -/
def Mnemonic.name : Mnemonic → String
  | .adc => "ADC"
  | .and => "AND"
  | .asl => "ASL"
  | .bcc => "BCC"
  | .bcs => "BCS"
  | .beq => "BEQ"
  | .bit => "BIT"
  | .bmi => "BMI"
  | .bne => "BNE"
  | .bpl => "BPL"
  | .brk => "BRK"
  | .bvc => "BVC"
  | .bvs => "BVS"
  | .clc => "CLC"
  | .cld => "CLD"
  | .cli => "CLI"
  | .clv => "CLV"
  | .cmp => "CMP"
  | .cpx => "CPX"
  | .cpy => "CPY"
  | .dec => "DEC"
  | .dex => "DEX"
  | .dey => "DEY"
  | .eor => "EOR"
  | .inc => "INC"
  | .inx => "INX"
  | .iny => "INY"
  | .jmp => "JMP"
  | .jsr => "JSR"
  | .lda => "LDA"
  | .ldx => "LDX"
  | .ldy => "LDY"
  | .lsr => "LSR"
  | .nop => "NOP"
  | .ora => "ORA"
  | .pha => "PHA"
  | .php => "PHP"
  | .pla => "PLA"
  | .plp => "PLP"
  | .rol => "ROL"
  | .ror => "ROR"
  | .rti => "RTI"
  | .rts => "RTS"
  | .sbc => "SBC"
  | .sec => "SEC"
  | .sed => "SED"
  | .sei => "SEI"
  | .sta => "STA"
  | .stx => "STX"
  | .sty => "STY"
  | .tax => "TAX"
  | .tay => "TAY"
  | .tsx => "TSX"
  | .txa => "TXA"
  | .txs => "TXS"
  | .tya => "TYA"

/-- The instruction set: one constructor per row of spec/opcode_table.json, its argument the operand byte or word.
The opcode byte, the mode rule and the rule that gives the meaning stand beside each (30_encoding.md R75). -/
inductive Instr
  | adcImm (b : Byte)  -- ADC immediate, $69, R82, R151
  | adcZp (b : Byte)  -- ADC zeropage, $65, R83, R151
  | adcZpX (b : Byte)  -- ADC zeropage,X, $75, R84, R151
  | adcAbs (w : Word)  -- ADC absolute, $6D, R86, R151
  | adcAbsX (w : Word)  -- ADC absolute,X, $7D, R87, R151
  | adcAbsY (w : Word)  -- ADC absolute,Y, $79, R88, R151
  | adcIndX (b : Byte)  -- ADC (indirect,X), $61, R91, R151
  | adcIndY (b : Byte)  -- ADC (indirect),Y, $71, R92, R151
  | andImm (b : Byte)  -- AND immediate, $29, R82, R160
  | andZp (b : Byte)  -- AND zeropage, $25, R83, R160
  | andZpX (b : Byte)  -- AND zeropage,X, $35, R84, R160
  | andAbs (w : Word)  -- AND absolute, $2D, R86, R160
  | andAbsX (w : Word)  -- AND absolute,X, $3D, R87, R160
  | andAbsY (w : Word)  -- AND absolute,Y, $39, R88, R160
  | andIndX (b : Byte)  -- AND (indirect,X), $21, R91, R160
  | andIndY (b : Byte)  -- AND (indirect),Y, $31, R92, R160
  | aslAcc  -- ASL accumulator, $0A, R81, R170
  | aslZp (b : Byte)  -- ASL zeropage, $06, R83, R170
  | aslZpX (b : Byte)  -- ASL zeropage,X, $16, R84, R170
  | aslAbs (w : Word)  -- ASL absolute, $0E, R86, R170
  | aslAbsX (w : Word)  -- ASL absolute,X, $1E, R87, R170
  | bcc (b : Byte)  -- BCC relative, $90, R90, R201
  | bcs (b : Byte)  -- BCS relative, $B0, R90, R202
  | beq (b : Byte)  -- BEQ relative, $F0, R90, R203
  | bitZp (b : Byte)  -- BIT zeropage, $24, R83, R222
  | bitAbs (w : Word)  -- BIT absolute, $2C, R86, R222
  | bmi (b : Byte)  -- BMI relative, $30, R90, R204
  | bne (b : Byte)  -- BNE relative, $D0, R90, R205
  | bpl (b : Byte)  -- BPL relative, $10, R90, R206
  | brk  -- BRK implied, $00, R81, R220
  | bvc (b : Byte)  -- BVC relative, $50, R90, R207
  | bvs (b : Byte)  -- BVS relative, $70, R90, R208
  | clc  -- CLC implied, $18, R81, R180
  | cld  -- CLD implied, $D8, R81, R181
  | cli  -- CLI implied, $58, R81, R182
  | clv  -- CLV implied, $B8, R81, R183
  | cmpImm (b : Byte)  -- CMP immediate, $C9, R82, R191
  | cmpZp (b : Byte)  -- CMP zeropage, $C5, R83, R191
  | cmpZpX (b : Byte)  -- CMP zeropage,X, $D5, R84, R191
  | cmpAbs (w : Word)  -- CMP absolute, $CD, R86, R191
  | cmpAbsX (w : Word)  -- CMP absolute,X, $DD, R87, R191
  | cmpAbsY (w : Word)  -- CMP absolute,Y, $D9, R88, R191
  | cmpIndX (b : Byte)  -- CMP (indirect,X), $C1, R91, R191
  | cmpIndY (b : Byte)  -- CMP (indirect),Y, $D1, R92, R191
  | cpxImm (b : Byte)  -- CPX immediate, $E0, R82, R192
  | cpxZp (b : Byte)  -- CPX zeropage, $E4, R83, R192
  | cpxAbs (w : Word)  -- CPX absolute, $EC, R86, R192
  | cpyImm (b : Byte)  -- CPY immediate, $C0, R82, R193
  | cpyZp (b : Byte)  -- CPY zeropage, $C4, R83, R193
  | cpyAbs (w : Word)  -- CPY absolute, $CC, R86, R193
  | decZp (b : Byte)  -- DEC zeropage, $C6, R83, R140
  | decZpX (b : Byte)  -- DEC zeropage,X, $D6, R84, R140
  | decAbs (w : Word)  -- DEC absolute, $CE, R86, R140
  | decAbsX (w : Word)  -- DEC absolute,X, $DE, R87, R140
  | dex  -- DEX implied, $CA, R81, R141
  | dey  -- DEY implied, $88, R81, R142
  | eorImm (b : Byte)  -- EOR immediate, $49, R82, R161
  | eorZp (b : Byte)  -- EOR zeropage, $45, R83, R161
  | eorZpX (b : Byte)  -- EOR zeropage,X, $55, R84, R161
  | eorAbs (w : Word)  -- EOR absolute, $4D, R86, R161
  | eorAbsX (w : Word)  -- EOR absolute,X, $5D, R87, R161
  | eorAbsY (w : Word)  -- EOR absolute,Y, $59, R88, R161
  | eorIndX (b : Byte)  -- EOR (indirect,X), $41, R91, R161
  | eorIndY (b : Byte)  -- EOR (indirect),Y, $51, R92, R161
  | incZp (b : Byte)  -- INC zeropage, $E6, R83, R143
  | incZpX (b : Byte)  -- INC zeropage,X, $F6, R84, R143
  | incAbs (w : Word)  -- INC absolute, $EE, R86, R143
  | incAbsX (w : Word)  -- INC absolute,X, $FE, R87, R143
  | inx  -- INX implied, $E8, R81, R144
  | iny  -- INY implied, $C8, R81, R145
  | jmpAbs (w : Word)  -- JMP absolute, $4C, R86, R210
  | jmpInd (w : Word)  -- JMP indirect, $6C, R93, R210
  | jsr (w : Word)  -- JSR absolute, $20, R86, R211
  | ldaImm (b : Byte)  -- LDA immediate, $A9, R82, R110
  | ldaZp (b : Byte)  -- LDA zeropage, $A5, R83, R110
  | ldaZpX (b : Byte)  -- LDA zeropage,X, $B5, R84, R110
  | ldaAbs (w : Word)  -- LDA absolute, $AD, R86, R110
  | ldaAbsX (w : Word)  -- LDA absolute,X, $BD, R87, R110
  | ldaAbsY (w : Word)  -- LDA absolute,Y, $B9, R88, R110
  | ldaIndX (b : Byte)  -- LDA (indirect,X), $A1, R91, R110
  | ldaIndY (b : Byte)  -- LDA (indirect),Y, $B1, R92, R110
  | ldxImm (b : Byte)  -- LDX immediate, $A2, R82, R111
  | ldxZp (b : Byte)  -- LDX zeropage, $A6, R83, R111
  | ldxZpY (b : Byte)  -- LDX zeropage,Y, $B6, R85, R111
  | ldxAbs (w : Word)  -- LDX absolute, $AE, R86, R111
  | ldxAbsY (w : Word)  -- LDX absolute,Y, $BE, R88, R111
  | ldyImm (b : Byte)  -- LDY immediate, $A0, R82, R112
  | ldyZp (b : Byte)  -- LDY zeropage, $A4, R83, R112
  | ldyZpX (b : Byte)  -- LDY zeropage,X, $B4, R84, R112
  | ldyAbs (w : Word)  -- LDY absolute, $AC, R86, R112
  | ldyAbsX (w : Word)  -- LDY absolute,X, $BC, R87, R112
  | lsrAcc  -- LSR accumulator, $4A, R81, R171
  | lsrZp (b : Byte)  -- LSR zeropage, $46, R83, R171
  | lsrZpX (b : Byte)  -- LSR zeropage,X, $56, R84, R171
  | lsrAbs (w : Word)  -- LSR absolute, $4E, R86, R171
  | lsrAbsX (w : Word)  -- LSR absolute,X, $5E, R87, R171
  | nop  -- NOP implied, $EA, R81, R223
  | oraImm (b : Byte)  -- ORA immediate, $09, R82, R162
  | oraZp (b : Byte)  -- ORA zeropage, $05, R83, R162
  | oraZpX (b : Byte)  -- ORA zeropage,X, $15, R84, R162
  | oraAbs (w : Word)  -- ORA absolute, $0D, R86, R162
  | oraAbsX (w : Word)  -- ORA absolute,X, $1D, R87, R162
  | oraAbsY (w : Word)  -- ORA absolute,Y, $19, R88, R162
  | oraIndX (b : Byte)  -- ORA (indirect,X), $01, R91, R162
  | oraIndY (b : Byte)  -- ORA (indirect),Y, $11, R92, R162
  | pha  -- PHA implied, $48, R81, R130
  | php  -- PHP implied, $08, R81, R131
  | pla  -- PLA implied, $68, R81, R132
  | plp  -- PLP implied, $28, R81, R133
  | rolAcc  -- ROL accumulator, $2A, R81, R172
  | rolZp (b : Byte)  -- ROL zeropage, $26, R83, R172
  | rolZpX (b : Byte)  -- ROL zeropage,X, $36, R84, R172
  | rolAbs (w : Word)  -- ROL absolute, $2E, R86, R172
  | rolAbsX (w : Word)  -- ROL absolute,X, $3E, R87, R172
  | rorAcc  -- ROR accumulator, $6A, R81, R173
  | rorZp (b : Byte)  -- ROR zeropage, $66, R83, R173
  | rorZpX (b : Byte)  -- ROR zeropage,X, $76, R84, R173
  | rorAbs (w : Word)  -- ROR absolute, $6E, R86, R173
  | rorAbsX (w : Word)  -- ROR absolute,X, $7E, R87, R173
  | rti  -- RTI implied, $40, R81, R221
  | rts  -- RTS implied, $60, R81, R212
  | sbcImm (b : Byte)  -- SBC immediate, $E9, R82, R152
  | sbcZp (b : Byte)  -- SBC zeropage, $E5, R83, R152
  | sbcZpX (b : Byte)  -- SBC zeropage,X, $F5, R84, R152
  | sbcAbs (w : Word)  -- SBC absolute, $ED, R86, R152
  | sbcAbsX (w : Word)  -- SBC absolute,X, $FD, R87, R152
  | sbcAbsY (w : Word)  -- SBC absolute,Y, $F9, R88, R152
  | sbcIndX (b : Byte)  -- SBC (indirect,X), $E1, R91, R152
  | sbcIndY (b : Byte)  -- SBC (indirect),Y, $F1, R92, R152
  | sec  -- SEC implied, $38, R81, R184
  | sed  -- SED implied, $F8, R81, R185
  | sei  -- SEI implied, $78, R81, R186
  | staZp (b : Byte)  -- STA zeropage, $85, R83, R113
  | staZpX (b : Byte)  -- STA zeropage,X, $95, R84, R113
  | staAbs (w : Word)  -- STA absolute, $8D, R86, R113
  | staAbsX (w : Word)  -- STA absolute,X, $9D, R87, R113
  | staAbsY (w : Word)  -- STA absolute,Y, $99, R88, R113
  | staIndX (b : Byte)  -- STA (indirect,X), $81, R91, R113
  | staIndY (b : Byte)  -- STA (indirect),Y, $91, R92, R113
  | stxZp (b : Byte)  -- STX zeropage, $86, R83, R114
  | stxZpY (b : Byte)  -- STX zeropage,Y, $96, R85, R114
  | stxAbs (w : Word)  -- STX absolute, $8E, R86, R114
  | styZp (b : Byte)  -- STY zeropage, $84, R83, R115
  | styZpX (b : Byte)  -- STY zeropage,X, $94, R84, R115
  | styAbs (w : Word)  -- STY absolute, $8C, R86, R115
  | tax  -- TAX implied, $AA, R81, R116
  | tay  -- TAY implied, $A8, R81, R117
  | tsx  -- TSX implied, $BA, R81, R118
  | txa  -- TXA implied, $8A, R81, R119
  | txs  -- TXS implied, $9A, R81, R120
  | tya  -- TYA implied, $98, R81, R121
  deriving DecidableEq, Repr

/-- The mnemonic of an instruction (30_encoding.md R75). -/
def Instr.mnemonic : Instr → Mnemonic
  | .adcImm _ => .adc
  | .adcZp _ => .adc
  | .adcZpX _ => .adc
  | .adcAbs _ => .adc
  | .adcAbsX _ => .adc
  | .adcAbsY _ => .adc
  | .adcIndX _ => .adc
  | .adcIndY _ => .adc
  | .andImm _ => .and
  | .andZp _ => .and
  | .andZpX _ => .and
  | .andAbs _ => .and
  | .andAbsX _ => .and
  | .andAbsY _ => .and
  | .andIndX _ => .and
  | .andIndY _ => .and
  | .aslAcc => .asl
  | .aslZp _ => .asl
  | .aslZpX _ => .asl
  | .aslAbs _ => .asl
  | .aslAbsX _ => .asl
  | .bcc _ => .bcc
  | .bcs _ => .bcs
  | .beq _ => .beq
  | .bitZp _ => .bit
  | .bitAbs _ => .bit
  | .bmi _ => .bmi
  | .bne _ => .bne
  | .bpl _ => .bpl
  | .brk => .brk
  | .bvc _ => .bvc
  | .bvs _ => .bvs
  | .clc => .clc
  | .cld => .cld
  | .cli => .cli
  | .clv => .clv
  | .cmpImm _ => .cmp
  | .cmpZp _ => .cmp
  | .cmpZpX _ => .cmp
  | .cmpAbs _ => .cmp
  | .cmpAbsX _ => .cmp
  | .cmpAbsY _ => .cmp
  | .cmpIndX _ => .cmp
  | .cmpIndY _ => .cmp
  | .cpxImm _ => .cpx
  | .cpxZp _ => .cpx
  | .cpxAbs _ => .cpx
  | .cpyImm _ => .cpy
  | .cpyZp _ => .cpy
  | .cpyAbs _ => .cpy
  | .decZp _ => .dec
  | .decZpX _ => .dec
  | .decAbs _ => .dec
  | .decAbsX _ => .dec
  | .dex => .dex
  | .dey => .dey
  | .eorImm _ => .eor
  | .eorZp _ => .eor
  | .eorZpX _ => .eor
  | .eorAbs _ => .eor
  | .eorAbsX _ => .eor
  | .eorAbsY _ => .eor
  | .eorIndX _ => .eor
  | .eorIndY _ => .eor
  | .incZp _ => .inc
  | .incZpX _ => .inc
  | .incAbs _ => .inc
  | .incAbsX _ => .inc
  | .inx => .inx
  | .iny => .iny
  | .jmpAbs _ => .jmp
  | .jmpInd _ => .jmp
  | .jsr _ => .jsr
  | .ldaImm _ => .lda
  | .ldaZp _ => .lda
  | .ldaZpX _ => .lda
  | .ldaAbs _ => .lda
  | .ldaAbsX _ => .lda
  | .ldaAbsY _ => .lda
  | .ldaIndX _ => .lda
  | .ldaIndY _ => .lda
  | .ldxImm _ => .ldx
  | .ldxZp _ => .ldx
  | .ldxZpY _ => .ldx
  | .ldxAbs _ => .ldx
  | .ldxAbsY _ => .ldx
  | .ldyImm _ => .ldy
  | .ldyZp _ => .ldy
  | .ldyZpX _ => .ldy
  | .ldyAbs _ => .ldy
  | .ldyAbsX _ => .ldy
  | .lsrAcc => .lsr
  | .lsrZp _ => .lsr
  | .lsrZpX _ => .lsr
  | .lsrAbs _ => .lsr
  | .lsrAbsX _ => .lsr
  | .nop => .nop
  | .oraImm _ => .ora
  | .oraZp _ => .ora
  | .oraZpX _ => .ora
  | .oraAbs _ => .ora
  | .oraAbsX _ => .ora
  | .oraAbsY _ => .ora
  | .oraIndX _ => .ora
  | .oraIndY _ => .ora
  | .pha => .pha
  | .php => .php
  | .pla => .pla
  | .plp => .plp
  | .rolAcc => .rol
  | .rolZp _ => .rol
  | .rolZpX _ => .rol
  | .rolAbs _ => .rol
  | .rolAbsX _ => .rol
  | .rorAcc => .ror
  | .rorZp _ => .ror
  | .rorZpX _ => .ror
  | .rorAbs _ => .ror
  | .rorAbsX _ => .ror
  | .rti => .rti
  | .rts => .rts
  | .sbcImm _ => .sbc
  | .sbcZp _ => .sbc
  | .sbcZpX _ => .sbc
  | .sbcAbs _ => .sbc
  | .sbcAbsX _ => .sbc
  | .sbcAbsY _ => .sbc
  | .sbcIndX _ => .sbc
  | .sbcIndY _ => .sbc
  | .sec => .sec
  | .sed => .sed
  | .sei => .sei
  | .staZp _ => .sta
  | .staZpX _ => .sta
  | .staAbs _ => .sta
  | .staAbsX _ => .sta
  | .staAbsY _ => .sta
  | .staIndX _ => .sta
  | .staIndY _ => .sta
  | .stxZp _ => .stx
  | .stxZpY _ => .stx
  | .stxAbs _ => .stx
  | .styZp _ => .sty
  | .styZpX _ => .sty
  | .styAbs _ => .sty
  | .tax => .tax
  | .tay => .tay
  | .tsx => .tsx
  | .txa => .txa
  | .txs => .txs
  | .tya => .tya

/-- The operand of an instruction, with its addressing mode (30_encoding.md R75, R80). -/
def Instr.operand : Instr → Operand
  | .adcImm b => .immediate b
  | .adcZp b => .zeropage b
  | .adcZpX b => .zeropageX b
  | .adcAbs w => .absolute w
  | .adcAbsX w => .absoluteX w
  | .adcAbsY w => .absoluteY w
  | .adcIndX b => .indirectX b
  | .adcIndY b => .indirectY b
  | .andImm b => .immediate b
  | .andZp b => .zeropage b
  | .andZpX b => .zeropageX b
  | .andAbs w => .absolute w
  | .andAbsX w => .absoluteX w
  | .andAbsY w => .absoluteY w
  | .andIndX b => .indirectX b
  | .andIndY b => .indirectY b
  | .aslAcc => .accumulator
  | .aslZp b => .zeropage b
  | .aslZpX b => .zeropageX b
  | .aslAbs w => .absolute w
  | .aslAbsX w => .absoluteX w
  | .bcc b => .relative b
  | .bcs b => .relative b
  | .beq b => .relative b
  | .bitZp b => .zeropage b
  | .bitAbs w => .absolute w
  | .bmi b => .relative b
  | .bne b => .relative b
  | .bpl b => .relative b
  | .brk => .implied
  | .bvc b => .relative b
  | .bvs b => .relative b
  | .clc => .implied
  | .cld => .implied
  | .cli => .implied
  | .clv => .implied
  | .cmpImm b => .immediate b
  | .cmpZp b => .zeropage b
  | .cmpZpX b => .zeropageX b
  | .cmpAbs w => .absolute w
  | .cmpAbsX w => .absoluteX w
  | .cmpAbsY w => .absoluteY w
  | .cmpIndX b => .indirectX b
  | .cmpIndY b => .indirectY b
  | .cpxImm b => .immediate b
  | .cpxZp b => .zeropage b
  | .cpxAbs w => .absolute w
  | .cpyImm b => .immediate b
  | .cpyZp b => .zeropage b
  | .cpyAbs w => .absolute w
  | .decZp b => .zeropage b
  | .decZpX b => .zeropageX b
  | .decAbs w => .absolute w
  | .decAbsX w => .absoluteX w
  | .dex => .implied
  | .dey => .implied
  | .eorImm b => .immediate b
  | .eorZp b => .zeropage b
  | .eorZpX b => .zeropageX b
  | .eorAbs w => .absolute w
  | .eorAbsX w => .absoluteX w
  | .eorAbsY w => .absoluteY w
  | .eorIndX b => .indirectX b
  | .eorIndY b => .indirectY b
  | .incZp b => .zeropage b
  | .incZpX b => .zeropageX b
  | .incAbs w => .absolute w
  | .incAbsX w => .absoluteX w
  | .inx => .implied
  | .iny => .implied
  | .jmpAbs w => .absolute w
  | .jmpInd w => .indirect w
  | .jsr w => .absolute w
  | .ldaImm b => .immediate b
  | .ldaZp b => .zeropage b
  | .ldaZpX b => .zeropageX b
  | .ldaAbs w => .absolute w
  | .ldaAbsX w => .absoluteX w
  | .ldaAbsY w => .absoluteY w
  | .ldaIndX b => .indirectX b
  | .ldaIndY b => .indirectY b
  | .ldxImm b => .immediate b
  | .ldxZp b => .zeropage b
  | .ldxZpY b => .zeropageY b
  | .ldxAbs w => .absolute w
  | .ldxAbsY w => .absoluteY w
  | .ldyImm b => .immediate b
  | .ldyZp b => .zeropage b
  | .ldyZpX b => .zeropageX b
  | .ldyAbs w => .absolute w
  | .ldyAbsX w => .absoluteX w
  | .lsrAcc => .accumulator
  | .lsrZp b => .zeropage b
  | .lsrZpX b => .zeropageX b
  | .lsrAbs w => .absolute w
  | .lsrAbsX w => .absoluteX w
  | .nop => .implied
  | .oraImm b => .immediate b
  | .oraZp b => .zeropage b
  | .oraZpX b => .zeropageX b
  | .oraAbs w => .absolute w
  | .oraAbsX w => .absoluteX w
  | .oraAbsY w => .absoluteY w
  | .oraIndX b => .indirectX b
  | .oraIndY b => .indirectY b
  | .pha => .implied
  | .php => .implied
  | .pla => .implied
  | .plp => .implied
  | .rolAcc => .accumulator
  | .rolZp b => .zeropage b
  | .rolZpX b => .zeropageX b
  | .rolAbs w => .absolute w
  | .rolAbsX w => .absoluteX w
  | .rorAcc => .accumulator
  | .rorZp b => .zeropage b
  | .rorZpX b => .zeropageX b
  | .rorAbs w => .absolute w
  | .rorAbsX w => .absoluteX w
  | .rti => .implied
  | .rts => .implied
  | .sbcImm b => .immediate b
  | .sbcZp b => .zeropage b
  | .sbcZpX b => .zeropageX b
  | .sbcAbs w => .absolute w
  | .sbcAbsX w => .absoluteX w
  | .sbcAbsY w => .absoluteY w
  | .sbcIndX b => .indirectX b
  | .sbcIndY b => .indirectY b
  | .sec => .implied
  | .sed => .implied
  | .sei => .implied
  | .staZp b => .zeropage b
  | .staZpX b => .zeropageX b
  | .staAbs w => .absolute w
  | .staAbsX w => .absoluteX w
  | .staAbsY w => .absoluteY w
  | .staIndX b => .indirectX b
  | .staIndY b => .indirectY b
  | .stxZp b => .zeropage b
  | .stxZpY b => .zeropageY b
  | .stxAbs w => .absolute w
  | .styZp b => .zeropage b
  | .styZpX b => .zeropageX b
  | .styAbs w => .absolute w
  | .tax => .implied
  | .tay => .implied
  | .tsx => .implied
  | .txa => .implied
  | .txs => .implied
  | .tya => .implied

/-- The length of an instruction in bytes, the "bytes" column of the table: fixed by its mode (30_encoding.md R70, R71). -/
def Instr.length (i : Instr) : Nat := i.operand.mode.length

/-- How the assembler writes the operand of a mode, `none` where it writes nothing (30_encoding.md R95). -/
def Mode.assembler : Mode → Option String
  | .implied => none
  | .accumulator => some "A"
  | .immediate => some "#oper"
  | .zeropage => some "oper"
  | .zeropageX => some "oper,X"
  | .zeropageY => some "oper,Y"
  | .absolute => some "oper"
  | .absoluteX => some "oper,X"
  | .absoluteY => some "oper,Y"
  | .relative => some "oper"
  | .indirectX => some "(oper,X)"
  | .indirectY => some "(oper),Y"
  | .indirect => some "(oper)"

/-- The assembler form of an instruction: the mnemonic, a space, and the operand as its mode is written
(30_encoding.md R95). -/
def Instr.assembler (i : Instr) : String :=
  match i.operand.mode.assembler with
  | none => i.mnemonic.name
  | some o => i.mnemonic.name ++ " " ++ o

end Sys2Proof
end

