-- ==== Sys2Proof/WellFormed.lean ====
section
/-! DEFINITION. Well-formedness. The operands of `Instr` are typed (a byte or a word), so every instruction is well formed; what
can be ill formed is a mnemonic paired with an operand of a mode the table does not give it (30_encoding.md R75). The check is
on such pairs, and an instruction is well formed when its own pair passes it. -/

namespace Sys2Proof

/-- The addressing modes the opcode table gives a mnemonic (30_encoding.md R75). -/
def Mnemonic.modes : Mnemonic → List Mode
  | .adc => [.immediate, .zeropage, .zeropageX, .absolute, .absoluteX, .absoluteY, .indirectX, .indirectY]
  | .and => [.immediate, .zeropage, .zeropageX, .absolute, .absoluteX, .absoluteY, .indirectX, .indirectY]
  | .asl => [.accumulator, .zeropage, .zeropageX, .absolute, .absoluteX]
  | .bcc => [.relative]
  | .bcs => [.relative]
  | .beq => [.relative]
  | .bit => [.zeropage, .absolute]
  | .bmi => [.relative]
  | .bne => [.relative]
  | .bpl => [.relative]
  | .brk => [.implied]
  | .bvc => [.relative]
  | .bvs => [.relative]
  | .clc => [.implied]
  | .cld => [.implied]
  | .cli => [.implied]
  | .clv => [.implied]
  | .cmp => [.immediate, .zeropage, .zeropageX, .absolute, .absoluteX, .absoluteY, .indirectX, .indirectY]
  | .cpx => [.immediate, .zeropage, .absolute]
  | .cpy => [.immediate, .zeropage, .absolute]
  | .dec => [.zeropage, .zeropageX, .absolute, .absoluteX]
  | .dex => [.implied]
  | .dey => [.implied]
  | .eor => [.immediate, .zeropage, .zeropageX, .absolute, .absoluteX, .absoluteY, .indirectX, .indirectY]
  | .inc => [.zeropage, .zeropageX, .absolute, .absoluteX]
  | .inx => [.implied]
  | .iny => [.implied]
  | .jmp => [.absolute, .indirect]
  | .jsr => [.absolute]
  | .lda => [.immediate, .zeropage, .zeropageX, .absolute, .absoluteX, .absoluteY, .indirectX, .indirectY]
  | .ldx => [.immediate, .zeropage, .zeropageY, .absolute, .absoluteY]
  | .ldy => [.immediate, .zeropage, .zeropageX, .absolute, .absoluteX]
  | .lsr => [.accumulator, .zeropage, .zeropageX, .absolute, .absoluteX]
  | .nop => [.implied]
  | .ora => [.immediate, .zeropage, .zeropageX, .absolute, .absoluteX, .absoluteY, .indirectX, .indirectY]
  | .pha => [.implied]
  | .php => [.implied]
  | .pla => [.implied]
  | .plp => [.implied]
  | .rol => [.accumulator, .zeropage, .zeropageX, .absolute, .absoluteX]
  | .ror => [.accumulator, .zeropage, .zeropageX, .absolute, .absoluteX]
  | .rti => [.implied]
  | .rts => [.implied]
  | .sbc => [.immediate, .zeropage, .zeropageX, .absolute, .absoluteX, .absoluteY, .indirectX, .indirectY]
  | .sec => [.implied]
  | .sed => [.implied]
  | .sei => [.implied]
  | .sta => [.zeropage, .zeropageX, .absolute, .absoluteX, .absoluteY, .indirectX, .indirectY]
  | .stx => [.zeropage, .zeropageY, .absolute]
  | .sty => [.zeropage, .zeropageX, .absolute]
  | .tax => [.implied]
  | .tay => [.implied]
  | .tsx => [.implied]
  | .txa => [.implied]
  | .txs => [.implied]
  | .tya => [.implied]

/-- The check: the table gives mnemonic `m` the mode of operand `o` (30_encoding.md R75, R82, R85, R90, R93). -/
def wellFormedPair (m : Mnemonic) (o : Operand) : Bool :=
  decide (o.mode ∈ m.modes)

/-- An instruction is well formed when its mnemonic may carry its operand (30_encoding.md R75). -/
abbrev Instr.WellFormed (i : Instr) : Prop := wellFormedPair i.mnemonic i.operand = true

end Sys2Proof
end

