-- ==== Sys2Proof/Decode.lean ====
section
/-! DEFINITION. The decoder, total on any bytes and rejecting by name; after it the encoder, written from the same opcode column
(30_encoding.md R70 to R77), and the assembler's branch offset (R97). -/

namespace Sys2Proof

/-- The two-byte operand: low byte first (30_encoding.md R72). -/
def operandWord (lo hi : Byte) : Word := hi ++ lo

/-- Row `0x` of the opcode map: the column is the opcode's low hexadecimal digit (30_encoding.md R76). -/
def decodeRow0 (column : Nat) (b1 b2 : Byte) : Option Instr :=
  match column with
  | 0x0 => some .brk
  | 0x1 => some (.oraIndX b1)
  | 0x5 => some (.oraZp b1)
  | 0x6 => some (.aslZp b1)
  | 0x8 => some .php
  | 0x9 => some (.oraImm b1)
  | 0xA => some .aslAcc
  | 0xD => some (.oraAbs (operandWord b1 b2))
  | 0xE => some (.aslAbs (operandWord b1 b2))
  | _ => none

/-- Row `1x` of the opcode map: the column is the opcode's low hexadecimal digit (30_encoding.md R76). -/
def decodeRow1 (column : Nat) (b1 b2 : Byte) : Option Instr :=
  match column with
  | 0x0 => some (.bpl b1)
  | 0x1 => some (.oraIndY b1)
  | 0x5 => some (.oraZpX b1)
  | 0x6 => some (.aslZpX b1)
  | 0x8 => some .clc
  | 0x9 => some (.oraAbsY (operandWord b1 b2))
  | 0xD => some (.oraAbsX (operandWord b1 b2))
  | 0xE => some (.aslAbsX (operandWord b1 b2))
  | _ => none

/-- Row `2x` of the opcode map: the column is the opcode's low hexadecimal digit (30_encoding.md R76). -/
def decodeRow2 (column : Nat) (b1 b2 : Byte) : Option Instr :=
  match column with
  | 0x0 => some (.jsr (operandWord b1 b2))
  | 0x1 => some (.andIndX b1)
  | 0x4 => some (.bitZp b1)
  | 0x5 => some (.andZp b1)
  | 0x6 => some (.rolZp b1)
  | 0x8 => some .plp
  | 0x9 => some (.andImm b1)
  | 0xA => some .rolAcc
  | 0xC => some (.bitAbs (operandWord b1 b2))
  | 0xD => some (.andAbs (operandWord b1 b2))
  | 0xE => some (.rolAbs (operandWord b1 b2))
  | _ => none

/-- Row `3x` of the opcode map: the column is the opcode's low hexadecimal digit (30_encoding.md R76). -/
def decodeRow3 (column : Nat) (b1 b2 : Byte) : Option Instr :=
  match column with
  | 0x0 => some (.bmi b1)
  | 0x1 => some (.andIndY b1)
  | 0x5 => some (.andZpX b1)
  | 0x6 => some (.rolZpX b1)
  | 0x8 => some .sec
  | 0x9 => some (.andAbsY (operandWord b1 b2))
  | 0xD => some (.andAbsX (operandWord b1 b2))
  | 0xE => some (.rolAbsX (operandWord b1 b2))
  | _ => none

/-- Row `4x` of the opcode map: the column is the opcode's low hexadecimal digit (30_encoding.md R76). -/
def decodeRow4 (column : Nat) (b1 b2 : Byte) : Option Instr :=
  match column with
  | 0x0 => some .rti
  | 0x1 => some (.eorIndX b1)
  | 0x5 => some (.eorZp b1)
  | 0x6 => some (.lsrZp b1)
  | 0x8 => some .pha
  | 0x9 => some (.eorImm b1)
  | 0xA => some .lsrAcc
  | 0xC => some (.jmpAbs (operandWord b1 b2))
  | 0xD => some (.eorAbs (operandWord b1 b2))
  | 0xE => some (.lsrAbs (operandWord b1 b2))
  | _ => none

/-- Row `5x` of the opcode map: the column is the opcode's low hexadecimal digit (30_encoding.md R76). -/
def decodeRow5 (column : Nat) (b1 b2 : Byte) : Option Instr :=
  match column with
  | 0x0 => some (.bvc b1)
  | 0x1 => some (.eorIndY b1)
  | 0x5 => some (.eorZpX b1)
  | 0x6 => some (.lsrZpX b1)
  | 0x8 => some .cli
  | 0x9 => some (.eorAbsY (operandWord b1 b2))
  | 0xD => some (.eorAbsX (operandWord b1 b2))
  | 0xE => some (.lsrAbsX (operandWord b1 b2))
  | _ => none

/-- Row `6x` of the opcode map: the column is the opcode's low hexadecimal digit (30_encoding.md R76). -/
def decodeRow6 (column : Nat) (b1 b2 : Byte) : Option Instr :=
  match column with
  | 0x0 => some .rts
  | 0x1 => some (.adcIndX b1)
  | 0x5 => some (.adcZp b1)
  | 0x6 => some (.rorZp b1)
  | 0x8 => some .pla
  | 0x9 => some (.adcImm b1)
  | 0xA => some .rorAcc
  | 0xC => some (.jmpInd (operandWord b1 b2))
  | 0xD => some (.adcAbs (operandWord b1 b2))
  | 0xE => some (.rorAbs (operandWord b1 b2))
  | _ => none

/-- Row `7x` of the opcode map: the column is the opcode's low hexadecimal digit (30_encoding.md R76). -/
def decodeRow7 (column : Nat) (b1 b2 : Byte) : Option Instr :=
  match column with
  | 0x0 => some (.bvs b1)
  | 0x1 => some (.adcIndY b1)
  | 0x5 => some (.adcZpX b1)
  | 0x6 => some (.rorZpX b1)
  | 0x8 => some .sei
  | 0x9 => some (.adcAbsY (operandWord b1 b2))
  | 0xD => some (.adcAbsX (operandWord b1 b2))
  | 0xE => some (.rorAbsX (operandWord b1 b2))
  | _ => none

/-- Row `8x` of the opcode map: the column is the opcode's low hexadecimal digit (30_encoding.md R76). -/
def decodeRow8 (column : Nat) (b1 b2 : Byte) : Option Instr :=
  match column with
  | 0x1 => some (.staIndX b1)
  | 0x4 => some (.styZp b1)
  | 0x5 => some (.staZp b1)
  | 0x6 => some (.stxZp b1)
  | 0x8 => some .dey
  | 0xA => some .txa
  | 0xC => some (.styAbs (operandWord b1 b2))
  | 0xD => some (.staAbs (operandWord b1 b2))
  | 0xE => some (.stxAbs (operandWord b1 b2))
  | _ => none

/-- Row `9x` of the opcode map: the column is the opcode's low hexadecimal digit (30_encoding.md R76). -/
def decodeRow9 (column : Nat) (b1 b2 : Byte) : Option Instr :=
  match column with
  | 0x0 => some (.bcc b1)
  | 0x1 => some (.staIndY b1)
  | 0x4 => some (.styZpX b1)
  | 0x5 => some (.staZpX b1)
  | 0x6 => some (.stxZpY b1)
  | 0x8 => some .tya
  | 0x9 => some (.staAbsY (operandWord b1 b2))
  | 0xA => some .txs
  | 0xD => some (.staAbsX (operandWord b1 b2))
  | _ => none

/-- Row `Ax` of the opcode map: the column is the opcode's low hexadecimal digit (30_encoding.md R76). -/
def decodeRowA (column : Nat) (b1 b2 : Byte) : Option Instr :=
  match column with
  | 0x0 => some (.ldyImm b1)
  | 0x1 => some (.ldaIndX b1)
  | 0x2 => some (.ldxImm b1)
  | 0x4 => some (.ldyZp b1)
  | 0x5 => some (.ldaZp b1)
  | 0x6 => some (.ldxZp b1)
  | 0x8 => some .tay
  | 0x9 => some (.ldaImm b1)
  | 0xA => some .tax
  | 0xC => some (.ldyAbs (operandWord b1 b2))
  | 0xD => some (.ldaAbs (operandWord b1 b2))
  | 0xE => some (.ldxAbs (operandWord b1 b2))
  | _ => none

/-- Row `Bx` of the opcode map: the column is the opcode's low hexadecimal digit (30_encoding.md R76). -/
def decodeRowB (column : Nat) (b1 b2 : Byte) : Option Instr :=
  match column with
  | 0x0 => some (.bcs b1)
  | 0x1 => some (.ldaIndY b1)
  | 0x4 => some (.ldyZpX b1)
  | 0x5 => some (.ldaZpX b1)
  | 0x6 => some (.ldxZpY b1)
  | 0x8 => some .clv
  | 0x9 => some (.ldaAbsY (operandWord b1 b2))
  | 0xA => some .tsx
  | 0xC => some (.ldyAbsX (operandWord b1 b2))
  | 0xD => some (.ldaAbsX (operandWord b1 b2))
  | 0xE => some (.ldxAbsY (operandWord b1 b2))
  | _ => none

/-- Row `Cx` of the opcode map: the column is the opcode's low hexadecimal digit (30_encoding.md R76). -/
def decodeRowC (column : Nat) (b1 b2 : Byte) : Option Instr :=
  match column with
  | 0x0 => some (.cpyImm b1)
  | 0x1 => some (.cmpIndX b1)
  | 0x4 => some (.cpyZp b1)
  | 0x5 => some (.cmpZp b1)
  | 0x6 => some (.decZp b1)
  | 0x8 => some .iny
  | 0x9 => some (.cmpImm b1)
  | 0xA => some .dex
  | 0xC => some (.cpyAbs (operandWord b1 b2))
  | 0xD => some (.cmpAbs (operandWord b1 b2))
  | 0xE => some (.decAbs (operandWord b1 b2))
  | _ => none

/-- Row `Dx` of the opcode map: the column is the opcode's low hexadecimal digit (30_encoding.md R76). -/
def decodeRowD (column : Nat) (b1 b2 : Byte) : Option Instr :=
  match column with
  | 0x0 => some (.bne b1)
  | 0x1 => some (.cmpIndY b1)
  | 0x5 => some (.cmpZpX b1)
  | 0x6 => some (.decZpX b1)
  | 0x8 => some .cld
  | 0x9 => some (.cmpAbsY (operandWord b1 b2))
  | 0xD => some (.cmpAbsX (operandWord b1 b2))
  | 0xE => some (.decAbsX (operandWord b1 b2))
  | _ => none

/-- Row `Ex` of the opcode map: the column is the opcode's low hexadecimal digit (30_encoding.md R76). -/
def decodeRowE (column : Nat) (b1 b2 : Byte) : Option Instr :=
  match column with
  | 0x0 => some (.cpxImm b1)
  | 0x1 => some (.sbcIndX b1)
  | 0x4 => some (.cpxZp b1)
  | 0x5 => some (.sbcZp b1)
  | 0x6 => some (.incZp b1)
  | 0x8 => some .inx
  | 0x9 => some (.sbcImm b1)
  | 0xA => some .nop
  | 0xC => some (.cpxAbs (operandWord b1 b2))
  | 0xD => some (.sbcAbs (operandWord b1 b2))
  | 0xE => some (.incAbs (operandWord b1 b2))
  | _ => none

/-- Row `Fx` of the opcode map: the column is the opcode's low hexadecimal digit (30_encoding.md R76). -/
def decodeRowF (column : Nat) (b1 b2 : Byte) : Option Instr :=
  match column with
  | 0x0 => some (.beq b1)
  | 0x1 => some (.sbcIndY b1)
  | 0x5 => some (.sbcZpX b1)
  | 0x6 => some (.incZpX b1)
  | 0x8 => some .sed
  | 0x9 => some (.sbcAbsY (operandWord b1 b2))
  | 0xD => some (.sbcAbsX (operandWord b1 b2))
  | 0xE => some (.incAbsX (operandWord b1 b2))
  | _ => none

/-- The opcode table as a decoder, by the map of 30_encoding.md R76: opcode byte `op` and the two bytes that follow it. The
whole byte decides (R71); a byte not in the map is no instruction (R77). -/
def decodeOpcode (op b1 b2 : Byte) : Option Instr :=
  match op.toNat / 16 with
  | 0x0 => decodeRow0 (op.toNat % 16) b1 b2
  | 0x1 => decodeRow1 (op.toNat % 16) b1 b2
  | 0x2 => decodeRow2 (op.toNat % 16) b1 b2
  | 0x3 => decodeRow3 (op.toNat % 16) b1 b2
  | 0x4 => decodeRow4 (op.toNat % 16) b1 b2
  | 0x5 => decodeRow5 (op.toNat % 16) b1 b2
  | 0x6 => decodeRow6 (op.toNat % 16) b1 b2
  | 0x7 => decodeRow7 (op.toNat % 16) b1 b2
  | 0x8 => decodeRow8 (op.toNat % 16) b1 b2
  | 0x9 => decodeRow9 (op.toNat % 16) b1 b2
  | 0xA => decodeRowA (op.toNat % 16) b1 b2
  | 0xB => decodeRowB (op.toNat % 16) b1 b2
  | 0xC => decodeRowC (op.toNat % 16) b1 b2
  | 0xD => decodeRowD (op.toNat % 16) b1 b2
  | 0xE => decodeRowE (op.toNat % 16) b1 b2
  | 0xF => decodeRowF (op.toNat % 16) b1 b2
  | _ => none

/-- Why bytes do not decode. -/
inductive DecodeError
  /-- There is no byte at all. -/
  | noByte
  /-- The first byte is one of the 105 values the table does not list (30_encoding.md R77). -/
  | unlistedOpcode (op : Byte)
  /-- The opcode is listed and its operand bytes are not all there (30_encoding.md R70). -/
  | missingOperand (op : Byte)
  deriving DecidableEq, Repr

/-- What decoding answers: an instruction with the bytes after it, or a named rejection. -/
inductive DecodeResult
  | ok (i : Instr) (rest : List Byte)
  | error (e : DecodeError)
  deriving DecidableEq, Repr

/-- Decode the instruction at the front of a list of bytes (30_encoding.md R70). -/
def decode : List Byte → DecodeResult
  | [] => .error .noByte
  | op :: rest =>
    match decodeOpcode op (rest.getD 0 0) (rest.getD 1 0) with
    | none => .error (.unlistedOpcode op)
    | some i =>
      if rest.length + 1 < i.length then .error (.missingOperand op)
      else .ok i (rest.drop (i.length - 1))

/-- The bytes of a table word: byte `k` is bits `8k+7 .. 8k` of `w`, and every bit from `nbits` on is zero. -/
def tableBytes (nbits w : Nat) : List Byte :=
  let v := w % 2 ^ nbits
  [BitVec.ofNat 8 v, BitVec.ofNat 8 (v / 256), BitVec.ofNat 8 (v / 65536)]

/-- The instruction the decoder reads from an instruction whose bits are `w`, numbered as spec/opcode_table.json numbers
them. -/
def decodeTableWord (nbits w : Nat) : Option Instr :=
  match decode (tableBytes nbits w) with
  | .ok i _ => some i
  | .error _ => none

/-- The opcode byte of an instruction (30_encoding.md R75). -/
def Instr.opcode : Instr → Byte
  | .adcImm _ => 0x69
  | .adcZp _ => 0x65
  | .adcZpX _ => 0x75
  | .adcAbs _ => 0x6D
  | .adcAbsX _ => 0x7D
  | .adcAbsY _ => 0x79
  | .adcIndX _ => 0x61
  | .adcIndY _ => 0x71
  | .andImm _ => 0x29
  | .andZp _ => 0x25
  | .andZpX _ => 0x35
  | .andAbs _ => 0x2D
  | .andAbsX _ => 0x3D
  | .andAbsY _ => 0x39
  | .andIndX _ => 0x21
  | .andIndY _ => 0x31
  | .aslAcc => 0x0A
  | .aslZp _ => 0x06
  | .aslZpX _ => 0x16
  | .aslAbs _ => 0x0E
  | .aslAbsX _ => 0x1E
  | .bcc _ => 0x90
  | .bcs _ => 0xB0
  | .beq _ => 0xF0
  | .bitZp _ => 0x24
  | .bitAbs _ => 0x2C
  | .bmi _ => 0x30
  | .bne _ => 0xD0
  | .bpl _ => 0x10
  | .brk => 0x00
  | .bvc _ => 0x50
  | .bvs _ => 0x70
  | .clc => 0x18
  | .cld => 0xD8
  | .cli => 0x58
  | .clv => 0xB8
  | .cmpImm _ => 0xC9
  | .cmpZp _ => 0xC5
  | .cmpZpX _ => 0xD5
  | .cmpAbs _ => 0xCD
  | .cmpAbsX _ => 0xDD
  | .cmpAbsY _ => 0xD9
  | .cmpIndX _ => 0xC1
  | .cmpIndY _ => 0xD1
  | .cpxImm _ => 0xE0
  | .cpxZp _ => 0xE4
  | .cpxAbs _ => 0xEC
  | .cpyImm _ => 0xC0
  | .cpyZp _ => 0xC4
  | .cpyAbs _ => 0xCC
  | .decZp _ => 0xC6
  | .decZpX _ => 0xD6
  | .decAbs _ => 0xCE
  | .decAbsX _ => 0xDE
  | .dex => 0xCA
  | .dey => 0x88
  | .eorImm _ => 0x49
  | .eorZp _ => 0x45
  | .eorZpX _ => 0x55
  | .eorAbs _ => 0x4D
  | .eorAbsX _ => 0x5D
  | .eorAbsY _ => 0x59
  | .eorIndX _ => 0x41
  | .eorIndY _ => 0x51
  | .incZp _ => 0xE6
  | .incZpX _ => 0xF6
  | .incAbs _ => 0xEE
  | .incAbsX _ => 0xFE
  | .inx => 0xE8
  | .iny => 0xC8
  | .jmpAbs _ => 0x4C
  | .jmpInd _ => 0x6C
  | .jsr _ => 0x20
  | .ldaImm _ => 0xA9
  | .ldaZp _ => 0xA5
  | .ldaZpX _ => 0xB5
  | .ldaAbs _ => 0xAD
  | .ldaAbsX _ => 0xBD
  | .ldaAbsY _ => 0xB9
  | .ldaIndX _ => 0xA1
  | .ldaIndY _ => 0xB1
  | .ldxImm _ => 0xA2
  | .ldxZp _ => 0xA6
  | .ldxZpY _ => 0xB6
  | .ldxAbs _ => 0xAE
  | .ldxAbsY _ => 0xBE
  | .ldyImm _ => 0xA0
  | .ldyZp _ => 0xA4
  | .ldyZpX _ => 0xB4
  | .ldyAbs _ => 0xAC
  | .ldyAbsX _ => 0xBC
  | .lsrAcc => 0x4A
  | .lsrZp _ => 0x46
  | .lsrZpX _ => 0x56
  | .lsrAbs _ => 0x4E
  | .lsrAbsX _ => 0x5E
  | .nop => 0xEA
  | .oraImm _ => 0x09
  | .oraZp _ => 0x05
  | .oraZpX _ => 0x15
  | .oraAbs _ => 0x0D
  | .oraAbsX _ => 0x1D
  | .oraAbsY _ => 0x19
  | .oraIndX _ => 0x01
  | .oraIndY _ => 0x11
  | .pha => 0x48
  | .php => 0x08
  | .pla => 0x68
  | .plp => 0x28
  | .rolAcc => 0x2A
  | .rolZp _ => 0x26
  | .rolZpX _ => 0x36
  | .rolAbs _ => 0x2E
  | .rolAbsX _ => 0x3E
  | .rorAcc => 0x6A
  | .rorZp _ => 0x66
  | .rorZpX _ => 0x76
  | .rorAbs _ => 0x6E
  | .rorAbsX _ => 0x7E
  | .rti => 0x40
  | .rts => 0x60
  | .sbcImm _ => 0xE9
  | .sbcZp _ => 0xE5
  | .sbcZpX _ => 0xF5
  | .sbcAbs _ => 0xED
  | .sbcAbsX _ => 0xFD
  | .sbcAbsY _ => 0xF9
  | .sbcIndX _ => 0xE1
  | .sbcIndY _ => 0xF1
  | .sec => 0x38
  | .sed => 0xF8
  | .sei => 0x78
  | .staZp _ => 0x85
  | .staZpX _ => 0x95
  | .staAbs _ => 0x8D
  | .staAbsX _ => 0x9D
  | .staAbsY _ => 0x99
  | .staIndX _ => 0x81
  | .staIndY _ => 0x91
  | .stxZp _ => 0x86
  | .stxZpY _ => 0x96
  | .stxAbs _ => 0x8E
  | .styZp _ => 0x84
  | .styZpX _ => 0x94
  | .styAbs _ => 0x8C
  | .tax => 0xAA
  | .tay => 0xA8
  | .tsx => 0xBA
  | .txa => 0x8A
  | .txs => 0x9A
  | .tya => 0x98

/-- The low byte of a word (00_scope.md R6). -/
def lowByte (w : Word) : Byte := w.extractLsb' 0 8

/-- The high byte of a word (00_scope.md R6). -/
def highByte (w : Word) : Byte := w.extractLsb' 8 8

/-- The operand bytes of an operand in the order they stand in memory (30_encoding.md R71, R72). -/
def Operand.bytes : Operand → List Byte
  | .implied => []
  | .accumulator => []
  | .immediate b => [b]
  | .zeropage b => [b]
  | .zeropageX b => [b]
  | .zeropageY b => [b]
  | .absolute w => [lowByte w, highByte w]
  | .absoluteX w => [lowByte w, highByte w]
  | .absoluteY w => [lowByte w, highByte w]
  | .relative b => [b]
  | .indirectX b => [b]
  | .indirectY b => [b]
  | .indirect w => [lowByte w, highByte w]

/-- The bytes of an instruction: the opcode, then the operand bytes (30_encoding.md R70, R71). -/
def encode (i : Instr) : List Byte := i.opcode :: i.operand.bytes

/-- The target of a branch at `pc` with offset byte `b`: counted from the next instruction, signed, modulo 65536
(30_encoding.md R90). -/
def branchTarget (pc : Word) (b : Byte) : Word := pc + 2 + b.signExtend 16

/-- The offset byte the assembler stores for a branch at `pc` to `target`, where the target is in reach (30_encoding.md R97).
DESIGN CHOICE (log 21): R97 bounds `target - (PC + 2)` without a modulus, and here the difference is the signed one modulo
65536, so a target across the wrap from `$FFFF` to `$0000` is in reach. -/
def branchOffset (pc target : Word) : Option Byte :=
  let off := (target - (pc + 2)).toInt
  if -128 ≤ off ∧ off ≤ 127 then some (BitVec.ofInt 8 off) else none

end Sys2Proof
end

