-- ==== Sys2Proof/Machine/Memory.lean ====
section
/-! DEFINITION. Memory as plain data: a list of (address, byte) cells in one canonical form (10_state.md R23, 20_memory.md
R40, R51). The memory map is applied above it, in Machine/Ops.lean. -/

namespace Sys2Proof.Machine

/-- Memory contents: addresses strictly rising, and no cell that holds what an unlisted address reads as. -/
abbrev Memory := List Host.Cell

/-- What an unlisted address holds. DESIGN CHOICE, unsafe (log 2): 10_state.md R27 leaves RAM contents unspecified. -/
def Memory.unlisted : Byte := 0

/-- The number of addresses (20_memory.md R40). -/
def Memory.size : Nat := 65536

/-- The byte at address `a`. -/
def Memory.read : Memory → Nat → Byte
  | [], _ => Memory.unlisted
  | (k, v) :: m, a => if k = a then v else Memory.read m a

/-- Memory without any cell at address `a`. -/
def Memory.erase : Memory → Nat → Memory
  | [], _ => []
  | (k, u) :: m, a => if k = a then Memory.erase m a else (k, u) :: Memory.erase m a

/-- Memory with the cell `(a, v)` put before the first cell of a higher address. -/
def Memory.insert (a : Nat) (v : Byte) : Memory → Memory
  | [] => [(a, v)]
  | (k, u) :: m => if a < k then (a, v) :: (k, u) :: m else (k, u) :: Memory.insert a v m

/-- Make `v` the byte at address `a`, in canonical form: writing the unlisted value removes the cell. -/
def Memory.write (m : Memory) (a : Nat) (v : Byte) : Memory :=
  if v = Memory.unlisted then m.erase a else Memory.insert a v (m.erase a)

/-- The canonical form from address `lo` on. -/
def Memory.wfFrom : Nat → Memory → Bool
  | _, [] => true
  | lo, (k, v) :: m =>
    decide (lo ≤ k) && decide (k < Memory.size) && decide (v ≠ Memory.unlisted) && Memory.wfFrom (k + 1) m

/-- The canonical form: addresses strictly rising and below `Memory.size`, no cell holding the unlisted value. -/
def Memory.wf (m : Memory) : Bool := Memory.wfFrom 0 m

end Sys2Proof.Machine
end

