-- ==== Sys2Proof/Machine/State.lean ====
section
/-! DEFINITION. The machine's state as plain data (10_state.md), the reasons a step can stop, and the state after reset. -/

namespace Sys2Proof.Machine

/-- The state of the machine: the registers and flags of 10_state.md R10 to R17, memory (R23), the two interrupt inputs
(R24), and the configuration the machine was built with (00_scope.md R4). There is no other state (R16, R25). -/
structure State where
  /-- The accumulator A (10_state.md R10). -/
  a : Byte
  /-- The index register X (10_state.md R11). -/
  x : Byte
  /-- The index register Y (10_state.md R11). -/
  y : Byte
  /-- The stack pointer SP, the low byte of the address of the next free stack byte (10_state.md R12). -/
  sp : Byte
  /-- The program counter PC: at the start of an instruction, the address of its opcode byte (10_state.md R13, R14). -/
  pc : Word
  /-- The flag N, negative (10_state.md R17, R20). -/
  n : Bool
  /-- The flag V, overflow (10_state.md R17). -/
  v : Bool
  /-- The flag D, decimal mode (10_state.md R17). -/
  d : Bool
  /-- The flag I, interrupt disable (10_state.md R17). -/
  i : Bool
  /-- The flag Z, zero (10_state.md R17, R20). -/
  z : Bool
  /-- The flag C, carry (10_state.md R17). -/
  c : Bool
  /-- The contents of memory (10_state.md R23). -/
  mem : Memory
  /-- The IRQ input level `irq_asserted`, driven by the environment (10_state.md R24). -/
  irqAsserted : Bool
  /-- The NMI latch `nmi_pending`: set by the environment, cleared when the NMI is taken (10_state.md R24). -/
  nmiPending : Bool
  /-- The configuration (00_scope.md R4): the model's own field, which no step writes (log 8). -/
  cfg : Config
  deriving DecidableEq, Repr

/-- The faults of the machine: none. No listed instruction can fail and there is no trap (60_exceptions.md R230), so the
type has no constructor, and no step can answer a fault. -/
inductive Fault
  deriving DecidableEq, Repr

/-- Why the model gives a step no meaning. -/
inductive Refusal
  /-- Raised by an arm of `exec` whose instruction has no meaning yet; no arm is one. Safe: nothing follows. -/
  | notModelled (mnemonic : String)
  /-- Raised by `step` when the byte at PC is one of the 105 values the table does not list: the spec refuses it and forbids
  a trap, a NOP or a guessed length (30_encoding.md R77, D12, log 15). Safe: nothing can be proved of a run that goes on
  after it. -/
  | unlistedOpcode (op : Byte)
  deriving DecidableEq, Repr

/-- The machine right after reset (10_state.md R27, 70_reset_and_hazards.md R260): I = 1, no NMI pending, PC read from the
reset vector, memory with nothing listed. Where R27 says unspecified the values are `InitialState.zeros` (DESIGN CHOICE,
log 3); the IRQ line is not asserted (DESIGN CHOICE, log 4); the configuration is the default (log 5 to 9). -/
def State.reset : State where
  a := InitialState.zeros.a
  x := InitialState.zeros.x
  y := InitialState.zeros.y
  sp := InitialState.zeros.sp
  pc := operandWord (Memory.read [] Config.default.vecReset.toNat) (Memory.read [] (Config.default.vecReset + 1).toNat)
  n := InitialState.zeros.n
  v := InitialState.zeros.v
  d := InitialState.zeros.d
  i := true
  z := InitialState.zeros.z
  c := InitialState.zeros.c
  mem := []
  irqAsserted := false
  nmiPending := false
  cfg := Config.default

end Sys2Proof.Machine
end

