-- ==== Sys2Proof/Machine/Ops.lean ====
section
/-! DEFINITION. The named operations over registers, flags, memory and the stack; interrupt entry and the return from it; the
environment's operations (inputs, reset, loading); and fetching an instruction's bytes. -/

namespace Sys2Proof.Machine

/-! ### Registers and flags (10_state.md R10 to R21) -/

/-- `A <- v`. -/
def State.setA (v : Byte) (s : State) : State := { s with a := v }
/-- `X <- v`. -/
def State.setX (v : Byte) (s : State) : State := { s with x := v }
/-- `Y <- v`. -/
def State.setY (v : Byte) (s : State) : State := { s with y := v }
/-- `SP <- v`. -/
def State.setSP (v : Byte) (s : State) : State := { s with sp := v }
/-- `PC <- w`. -/
def State.setPC (w : Word) (s : State) : State := { s with pc := w }
/-- `C <- b`. -/
def State.setC (b : Bool) (s : State) : State := { s with c := b }
/-- `D <- b`. -/
def State.setD (b : Bool) (s : State) : State := { s with d := b }
/-- `I <- b`. -/
def State.setI (b : Bool) (s : State) : State := { s with i := b }
/-- `V <- b`. -/
def State.setV (b : Bool) (s : State) : State := { s with v := b }
/-- `N <- b`. -/
def State.setN (b : Bool) (s : State) : State := { s with n := b }
/-- `Z <- b`. -/
def State.setZ (b : Bool) (s : State) : State := { s with z := b }
/-- `nmi_pending <- b` (10_state.md R24). -/
def State.setNmi (b : Bool) (s : State) : State := { s with nmiPending := b }

/-- `SetNZ(r)`: N is bit 7 of `r`, Z says whether `r` is zero (10_state.md R20). -/
def State.setNZ (r : Byte) (s : State) : State := { s with n := negativeFlag r, z := zeroFlag r }

/-- `SRByte(b)` of the machine's flags as they are (10_state.md R18). -/
def State.srByte (b : Bool) (s : State) : Byte := statusByte s.n s.v b s.d s.i s.z s.c

/-- `SetSR(v)`: the six flags from a pulled byte; bits 5 and 4 are dropped (10_state.md R19). -/
def State.setSR (v : Byte) (s : State) : State :=
  { s with
    n := v.getLsbD 7, v := v.getLsbD 6, d := v.getLsbD 3, i := v.getLsbD 2, z := v.getLsbD 1, c := v.getLsbD 0 }

/-- Write back an arithmetic result: A and the flags C, N, V, Z (43_arithmetic.md R151 to R153). -/
def State.setArith (r : ArithResult) (s : State) : State :=
  { s with a := r.r, c := r.c, n := r.n, v := r.v, z := r.z }

/-- `PC <- (PC + len) mod 65536` for an instruction in the mode of `o` (10_state.md R14, R15). -/
def State.advance (o : Operand) (s : State) : State := { s with pc := s.pc + BitVec.ofNat 16 o.mode.length }

/-! ### Memory (00_scope.md R7, 20_memory.md R51) -/

/-- `MemRead(a, 1)`: the byte the memory map gives for address `a` (20_memory.md R51). -/
def State.readByte (a : Word) (s : State) : Byte :=
  match s.cfg.kindAt a.toNat with
  | .unpopulated b => b
  | .ram => s.mem.read a.toNat
  | .rom => s.mem.read a.toNat

/-- `MemWrite(a, 1, v)`: sticks where `a` is RAM, has no effect where it is ROM or unpopulated (20_memory.md R51). -/
def State.writeByte (a : Word) (v : Byte) (s : State) : State :=
  match s.cfg.kindAt a.toNat with
  | .ram => { s with mem := s.mem.write a.toNat v }
  | .rom => s
  | .unpopulated _ => s

/-- `Read16(a)`: low byte at `a`, high byte at `(a + 1) mod 65536` (00_scope.md R7, 20_memory.md R43, R50). -/
def State.read16 (a : Word) (s : State) : Word := operandWord (s.readByte a) (s.readByte (a + 1))

/-! ### The stack (20_memory.md R46 to R49) -/

/-- The address `$0100 + p` of the stack byte `p` (20_memory.md R46). -/
def stackAddress (p : Byte) : Word := Config.stackBase + p.setWidth 16

/-- `Push(v)`: store at `$0100 + SP`, then decrement SP modulo 256 (20_memory.md R46, R48). -/
def State.push (v : Byte) (s : State) : State := (s.writeByte (stackAddress s.sp) v).setSP (s.sp - 1)

/-- `Pull()`: increment SP modulo 256, then read `$0100 + SP`; the byte and the state after (20_memory.md R47, R48). -/
def State.pull (s : State) : Byte × State := (s.readByte (stackAddress (s.sp + 1)), s.setSP (s.sp + 1))

/-- Push a 16-bit value, high byte first (20_memory.md R49). -/
def State.push16 (w : Word) (s : State) : State := (s.push (highByte w)).push (lowByte w)

/-- Pull a 16-bit value, low byte first (20_memory.md R49). -/
def State.pull16 (s : State) : Word × State :=
  (operandWord s.pull.1 s.pull.2.pull.1, s.pull.2.pull.2)

/-! ### Taking an interrupt and returning from one (60_exceptions.md R235, R238) -/

/-- The entry sequence of 60_exceptions.md R235 with return address `ret` and break flag `b`: push the address, push the
status byte with the flags as they were, set I, and load PC from `vector`. BRK enters by the same sequence
(49_interrupt_other.md R220). -/
def State.enterHandler (ret vector : Word) (b : Bool) (s : State) : State :=
  let t := (((s.push16 ret).push (s.srByte b)).setI true)
  t.setPC (t.read16 vector)

/-- `TakeInterrupt(vector, b)`: entry with the address of the next instruction not yet executed (60_exceptions.md R235). -/
def State.takeInterrupt (vector : Word) (b : Bool) (s : State) : State := s.enterHandler s.pc vector b

/-- The return from a handler: pull the status byte into the flags, then pull PC as it stands (49_interrupt_other.md R221,
60_exceptions.md R238). -/
def State.leaveHandler (s : State) : State :=
  let t := s.pull.2.setSR s.pull.1
  t.pull16.2.setPC t.pull16.1

/-- The NMI entry: the latch is cleared and the entry taken through `VEC_NMI` (60_exceptions.md R232, R234). -/
def State.takeNmi (s : State) : State := (s.setNmi false).takeInterrupt s.cfg.vecNmi false

/-- The IRQ entry through `VEC_IRQ` (60_exceptions.md R232, R233). -/
def State.takeIrq (s : State) : State := s.takeInterrupt s.cfg.vecIrq false

/-- The interrupt entry this step takes, if any: a pending NMI first, then an asserted IRQ while I = 0 (60_exceptions.md
R232, R237). -/
def State.pendingEntry (s : State) : Option State :=
  if s.nmiPending then some s.takeNmi
  else if s.irqAsserted && !s.i then some s.takeIrq
  else none

/-! ### Fetching (00_scope.md R7, 30_encoding.md R70) -/

/-- `Fetch(k)`: the byte at `(PC + k) mod 65536` (00_scope.md R7). -/
def State.fetchByte (k : Nat) (s : State) : Byte := s.readByte (s.pc + BitVec.ofNat 16 k)

/-- The opcode byte and the two bytes after it. A shorter instruction does not use the rest; reading has no side effect
(20_memory.md R53), so reading them is not observable (log 13). -/
def State.fetchBytes (s : State) : List Byte := [s.fetchByte 0, s.fetchByte 1, s.fetchByte 2]

/-! ### The environment (10_state.md R24, 70_reset_and_hazards.md R260, R264) -/

/-- The environment drives its inputs before a step: the IRQ level as given; an NMI event sets the latch, and a further event
while it is set is absorbed (10_state.md R24, 60_exceptions.md R233, R234). -/
def State.withInputs (irq nmiEvent : Bool) (s : State) : State :=
  { s with irqAsserted := irq, nmiPending := s.nmiPending || nmiEvent }

/-- Reset (70_reset_and_hazards.md R260): I = 1, no NMI pending, PC from the reset vector, nothing pushed and no memory
written; `init` gives what R260 leaves unspecified. -/
def State.applyReset (init : InitialState) (s : State) : State :=
  { s with
    a := init.a, x := init.x, y := init.y, sp := init.sp,
    n := init.n, v := init.v, d := init.d, z := init.z, c := init.c,
    i := true, nmiPending := false, pc := s.read16 s.cfg.vecReset }

/-- Load bytes from outside the machine at ascending addresses from `a` on, whatever the memory map says of them
(70_reset_and_hazards.md R264, log 10). -/
def State.load (a : Word) : List Byte → State → State
  | [], s => s
  | b :: bs, s => State.load (a + 1) bs { s with mem := s.mem.write a.toNat b }

/-- The configuration with something at address `a`: where the map has nothing there, one byte of RAM is put. -/
def populate (cfg : Config) (a : Word) : Config :=
  match cfg.kindAt a.toNat with
  | .unpopulated _ => { cfg with memMap := { base := a.toNat, size := 1, kind := .ram } :: cfg.memMap }
  | .ram => cfg
  | .rom => cfg

/-- The state whose next step fetches the three bytes `b0 b1 b2`: they are loaded at PC, every address they need is
populated, and no interrupt is taken before them (log 10). -/
def State.placeAtPC (bs : List Byte) (s : State) : State :=
  let t := s.load s.pc bs
  { t with
    cfg := populate (populate (populate s.cfg s.pc) (s.pc + 1)) (s.pc + 2)
    irqAsserted := s.irqAsserted && s.i
    nmiPending := false }

end Sys2Proof.Machine
end

