-- ==== Sys2Proof/Machine/Operands.lean ====
section
/-! DEFINITION. The addressing modes: effective addresses (30_encoding.md R81 to R93) and operand access (R94). -/

namespace Sys2Proof.Machine

/-- The address in page zero that a byte names (30_encoding.md R83). -/
def zeroPage (b : Byte) : Word := b.setWidth 16

/-- The pointer in page zero at `p`, its high byte at `(p + 1) mod 256` (30_encoding.md R91, R92). -/
def State.zeroPagePointer (p : Byte) (s : State) : Word :=
  operandWord (s.readByte (zeroPage p)) (s.readByte (zeroPage (p + 1)))

/-- Where `JMP (oper)` reads the high byte of its target: in the page of the pointer when `JMP_IND_PAGE_WRAP` holds, else at
the next address (30_encoding.md R93). -/
def jumpHighAddress (pageWrap : Bool) (w : Word) : Word :=
  if pageWrap then (w &&& 0xFF00) + ((w + 1) &&& 0x00FF) else w + 1

/-- The target of `JMP (oper)` (30_encoding.md R93). -/
def State.jumpPointer (w : Word) (s : State) : Word :=
  operandWord (s.readByte w) (s.readByte (jumpHighAddress s.cfg.jmpIndPageWrap w))

/-- The effective address an operand forms, `none` for the modes that form none; for `relative` and `indirect` it is the
target (30_encoding.md R80 to R93). -/
def State.effectiveAddress (o : Operand) (s : State) : Option Word :=
  match o with
  | .implied => none
  | .accumulator => none
  | .immediate _ => none
  | .zeropage b => some (zeroPage b)
  | .zeropageX b => some (zeroPage (b + s.x))
  | .zeropageY b => some (zeroPage (b + s.y))
  | .absolute w => some w
  | .absoluteX w => some (w + s.x.setWidth 16)
  | .absoluteY w => some (w + s.y.setWidth 16)
  | .relative b => some (branchTarget s.pc b)
  | .indirectX b => some (s.zeroPagePointer (b + s.x))
  | .indirectY b => some (s.zeroPagePointer b + s.y.setWidth 16)
  | .indirect w => some (s.jumpPointer w)

/-- `LoadOperand()` (30_encoding.md R94): the immediate byte, A, or the byte at the effective address. Implied mode has no
operand and no instruction asks for one (log 19). -/
def State.loadOperand (o : Operand) (s : State) : Byte :=
  match o with
  | .implied => 0
  | .accumulator => s.a
  | .immediate b => b
  | o =>
    match s.effectiveAddress o with
    | some ea => s.readByte ea
    | none => 0

/-- `StoreOperand(v)` (30_encoding.md R94): A in accumulator mode, else the byte at the effective address; never used where
no address is formed. -/
def State.storeOperand (o : Operand) (v : Byte) (s : State) : State :=
  match o with
  | .accumulator => s.setA v
  | o =>
    match s.effectiveAddress o with
    | some ea => s.writeByte ea v
    | none => s

end Sys2Proof.Machine
end

