-- ==== Sys2Proof/Machine/Arithmetic.lean ====
section
/-! DEFINITION. Arithmetic operations (43_arithmetic.md R150 to R154): binary when D = 0, the configuration functions when D = 1. -/

namespace Sys2Proof.Machine

/-- ADC: binary by R151 when D = 0, `DecimalADC` by R153 when D = 1 (43_arithmetic.md R150; log 1). -/
def opAdc (o : Operand) (s : State) : State :=
  let m := s.loadOperand o
  let r := if s.d then Config.decimalAdc s.a m s.c else adcBinary s.a m s.c
  (s.setArith r).advance o

/-- SBC: binary by R152 when D = 0, `DecimalSBC` by R153 when D = 1 (43_arithmetic.md R150; log 1). -/
def opSbc (o : Operand) (s : State) : State :=
  let m := s.loadOperand o
  let r := if s.d then Config.decimalSbc s.a m s.c else sbcBinary s.a m s.c
  (s.setArith r).advance o

/-- ADC, immediate (R82; 43_arithmetic.md R151). -/
def execAdcImm (b : Byte) (s : State) : Host.Outcome State Fault Refusal :=
  .next (opAdc (.immediate b) s)

/-- ADC, zeropage (R83; 43_arithmetic.md R151). -/
def execAdcZp (b : Byte) (s : State) : Host.Outcome State Fault Refusal :=
  .next (opAdc (.zeropage b) s)

/-- ADC, zeropage,X (R84; 43_arithmetic.md R151). -/
def execAdcZpX (b : Byte) (s : State) : Host.Outcome State Fault Refusal :=
  .next (opAdc (.zeropageX b) s)

/-- ADC, absolute (R86; 43_arithmetic.md R151). -/
def execAdcAbs (w : Word) (s : State) : Host.Outcome State Fault Refusal :=
  .next (opAdc (.absolute w) s)

/-- ADC, absolute,X (R87; 43_arithmetic.md R151). -/
def execAdcAbsX (w : Word) (s : State) : Host.Outcome State Fault Refusal :=
  .next (opAdc (.absoluteX w) s)

/-- ADC, absolute,Y (R88; 43_arithmetic.md R151). -/
def execAdcAbsY (w : Word) (s : State) : Host.Outcome State Fault Refusal :=
  .next (opAdc (.absoluteY w) s)

/-- ADC, (indirect,X) (R91; 43_arithmetic.md R151). -/
def execAdcIndX (b : Byte) (s : State) : Host.Outcome State Fault Refusal :=
  .next (opAdc (.indirectX b) s)

/-- ADC, (indirect),Y (R92; 43_arithmetic.md R151). -/
def execAdcIndY (b : Byte) (s : State) : Host.Outcome State Fault Refusal :=
  .next (opAdc (.indirectY b) s)

/-- SBC, immediate (R82; 43_arithmetic.md R152). -/
def execSbcImm (b : Byte) (s : State) : Host.Outcome State Fault Refusal :=
  .next (opSbc (.immediate b) s)

/-- SBC, zeropage (R83; 43_arithmetic.md R152). -/
def execSbcZp (b : Byte) (s : State) : Host.Outcome State Fault Refusal :=
  .next (opSbc (.zeropage b) s)

/-- SBC, zeropage,X (R84; 43_arithmetic.md R152). -/
def execSbcZpX (b : Byte) (s : State) : Host.Outcome State Fault Refusal :=
  .next (opSbc (.zeropageX b) s)

/-- SBC, absolute (R86; 43_arithmetic.md R152). -/
def execSbcAbs (w : Word) (s : State) : Host.Outcome State Fault Refusal :=
  .next (opSbc (.absolute w) s)

/-- SBC, absolute,X (R87; 43_arithmetic.md R152). -/
def execSbcAbsX (w : Word) (s : State) : Host.Outcome State Fault Refusal :=
  .next (opSbc (.absoluteX w) s)

/-- SBC, absolute,Y (R88; 43_arithmetic.md R152). -/
def execSbcAbsY (w : Word) (s : State) : Host.Outcome State Fault Refusal :=
  .next (opSbc (.absoluteY w) s)

/-- SBC, (indirect,X) (R91; 43_arithmetic.md R152). -/
def execSbcIndX (b : Byte) (s : State) : Host.Outcome State Fault Refusal :=
  .next (opSbc (.indirectX b) s)

/-- SBC, (indirect),Y (R92; 43_arithmetic.md R152). -/
def execSbcIndY (b : Byte) (s : State) : Host.Outcome State Fault Refusal :=
  .next (opSbc (.indirectY b) s)

end Sys2Proof.Machine
end

