-- ==== Sys2Proof/Machine/Branch.lean ====
section
/-! DEFINITION. Conditional branches, jumps and subroutines (48_branch_jump.md R200 to R213): no flag is written. -/

namespace Sys2Proof.Machine

/-- `Branch(cond)` with offset byte `b`: to the target when taken, else to the next instruction (48_branch_jump.md R200). -/
def opBranch (cond : Bool) (b : Byte) (s : State) : State :=
  if cond then s.setPC (branchTarget s.pc b) else s.advance (.relative b)

/-- JMP: PC from the target of either form (48_branch_jump.md R210). -/
def opJump (o : Operand) (s : State) : State :=
  match s.effectiveAddress o with
  | some target => s.setPC target
  | none => s

/-- BCC: branch on C = 0 (48_branch_jump.md R201). -/
def execBcc (b : Byte) (s : State) : Host.Outcome State Fault Refusal :=
  .next (opBranch (!s.c) b s)

/-- BCS: branch on C = 1 (48_branch_jump.md R202). -/
def execBcs (b : Byte) (s : State) : Host.Outcome State Fault Refusal :=
  .next (opBranch s.c b s)

/-- BEQ: branch on Z = 1 (48_branch_jump.md R203). -/
def execBeq (b : Byte) (s : State) : Host.Outcome State Fault Refusal :=
  .next (opBranch s.z b s)

/-- BMI: branch on N = 1 (48_branch_jump.md R204). -/
def execBmi (b : Byte) (s : State) : Host.Outcome State Fault Refusal :=
  .next (opBranch s.n b s)

/-- BNE: branch on Z = 0 (48_branch_jump.md R205). -/
def execBne (b : Byte) (s : State) : Host.Outcome State Fault Refusal :=
  .next (opBranch (!s.z) b s)

/-- BPL: branch on N = 0 (48_branch_jump.md R206). -/
def execBpl (b : Byte) (s : State) : Host.Outcome State Fault Refusal :=
  .next (opBranch (!s.n) b s)

/-- BVC: branch on V = 0 (48_branch_jump.md R207). -/
def execBvc (b : Byte) (s : State) : Host.Outcome State Fault Refusal :=
  .next (opBranch (!s.v) b s)

/-- BVS: branch on V = 1 (48_branch_jump.md R208). -/
def execBvs (b : Byte) (s : State) : Host.Outcome State Fault Refusal :=
  .next (opBranch s.v b s)

/-- JMP, absolute (R86; 48_branch_jump.md R210). -/
def execJmpAbs (w : Word) (s : State) : Host.Outcome State Fault Refusal :=
  .next (opJump (.absolute w) s)

/-- JMP, indirect (R93; 48_branch_jump.md R210). -/
def execJmpInd (w : Word) (s : State) : Host.Outcome State Fault Refusal :=
  .next (opJump (.indirect w) s)

/-- JSR, absolute (R86): push PC + 2, the address of its own last byte, then jump; both operand bytes are read before the
pushes (20_memory.md R55) (48_branch_jump.md R211). -/
def execJsr (w : Word) (s : State) : Host.Outcome State Fault Refusal :=
  .next ((s.push16 (s.pc + 2)).setPC w)

/-- RTS: pull PC and add one (48_branch_jump.md R212). -/
def execRts (s : State) : Host.Outcome State Fault Refusal :=
  .next (s.pull16.2.setPC (s.pull16.1 + 1))

end Sys2Proof.Machine
end

