-- ==== Sys2Proof/Machine/Compare.lean ====
section
/-! DEFINITION. Comparisons (47_compare.md R190 to R194): always binary, no carry in, V untouched. -/

namespace Sys2Proof.Machine

/-- `Compare(reg, M)`: N from the difference, Z from equality, C from the unsigned order (47_compare.md R190). -/
def opCompare (reg : Byte) (o : Operand) (s : State) : State :=
  let m := s.loadOperand o
  (((s.setN (negativeFlag (compareDifference reg m))).setZ (compareZero reg m)).setC (compareCarry reg m)).advance o

/-- CMP, immediate (R82; 47_compare.md R191). -/
def execCmpImm (b : Byte) (s : State) : Host.Outcome State Fault Refusal :=
  .next (opCompare s.a (.immediate b) s)

/-- CMP, zeropage (R83; 47_compare.md R191). -/
def execCmpZp (b : Byte) (s : State) : Host.Outcome State Fault Refusal :=
  .next (opCompare s.a (.zeropage b) s)

/-- CMP, zeropage,X (R84; 47_compare.md R191). -/
def execCmpZpX (b : Byte) (s : State) : Host.Outcome State Fault Refusal :=
  .next (opCompare s.a (.zeropageX b) s)

/-- CMP, absolute (R86; 47_compare.md R191). -/
def execCmpAbs (w : Word) (s : State) : Host.Outcome State Fault Refusal :=
  .next (opCompare s.a (.absolute w) s)

/-- CMP, absolute,X (R87; 47_compare.md R191). -/
def execCmpAbsX (w : Word) (s : State) : Host.Outcome State Fault Refusal :=
  .next (opCompare s.a (.absoluteX w) s)

/-- CMP, absolute,Y (R88; 47_compare.md R191). -/
def execCmpAbsY (w : Word) (s : State) : Host.Outcome State Fault Refusal :=
  .next (opCompare s.a (.absoluteY w) s)

/-- CMP, (indirect,X) (R91; 47_compare.md R191). -/
def execCmpIndX (b : Byte) (s : State) : Host.Outcome State Fault Refusal :=
  .next (opCompare s.a (.indirectX b) s)

/-- CMP, (indirect),Y (R92; 47_compare.md R191). -/
def execCmpIndY (b : Byte) (s : State) : Host.Outcome State Fault Refusal :=
  .next (opCompare s.a (.indirectY b) s)

/-- CPX, immediate (R82; 47_compare.md R192). -/
def execCpxImm (b : Byte) (s : State) : Host.Outcome State Fault Refusal :=
  .next (opCompare s.x (.immediate b) s)

/-- CPX, zeropage (R83; 47_compare.md R192). -/
def execCpxZp (b : Byte) (s : State) : Host.Outcome State Fault Refusal :=
  .next (opCompare s.x (.zeropage b) s)

/-- CPX, absolute (R86; 47_compare.md R192). -/
def execCpxAbs (w : Word) (s : State) : Host.Outcome State Fault Refusal :=
  .next (opCompare s.x (.absolute w) s)

/-- CPY, immediate (R82; 47_compare.md R193). -/
def execCpyImm (b : Byte) (s : State) : Host.Outcome State Fault Refusal :=
  .next (opCompare s.y (.immediate b) s)

/-- CPY, zeropage (R83; 47_compare.md R193). -/
def execCpyZp (b : Byte) (s : State) : Host.Outcome State Fault Refusal :=
  .next (opCompare s.y (.zeropage b) s)

/-- CPY, absolute (R86; 47_compare.md R193). -/
def execCpyAbs (w : Word) (s : State) : Host.Outcome State Fault Refusal :=
  .next (opCompare s.y (.absolute w) s)

end Sys2Proof.Machine
end

