-- ==== Sys2Proof/Machine/FlagInstr.lean ====
section
/-! DEFINITION. Flag instructions (46_flag.md R180 to R187): one flag set to a constant. -/

namespace Sys2Proof.Machine

/-- CLC: `C <- 0` (46_flag.md R180). -/
def execClc (s : State) : Host.Outcome State Fault Refusal :=
  .next ((s.setC false).advance .implied)

/-- CLD: `D <- 0` (46_flag.md R181). -/
def execCld (s : State) : Host.Outcome State Fault Refusal :=
  .next ((s.setD false).advance .implied)

/-- CLI: `I <- 0` (46_flag.md R182). -/
def execCli (s : State) : Host.Outcome State Fault Refusal :=
  .next ((s.setI false).advance .implied)

/-- CLV: `V <- 0` (46_flag.md R183). -/
def execClv (s : State) : Host.Outcome State Fault Refusal :=
  .next ((s.setV false).advance .implied)

/-- SEC: `C <- 1` (46_flag.md R184). -/
def execSec (s : State) : Host.Outcome State Fault Refusal :=
  .next ((s.setC true).advance .implied)

/-- SED: `D <- 1` (46_flag.md R185). -/
def execSed (s : State) : Host.Outcome State Fault Refusal :=
  .next ((s.setD true).advance .implied)

/-- SEI: `I <- 1` (46_flag.md R186). -/
def execSei (s : State) : Host.Outcome State Fault Refusal :=
  .next ((s.setI true).advance .implied)

end Sys2Proof.Machine
end

