-- ==== Sys2Proof/Machine/IncDec.lean ====
section
/-! DEFINITION. Decrements and increments (42_incdec.md R140 to R146): binary whatever D is, C and V untouched. -/

namespace Sys2Proof.Machine

/-- DEC and INC: one read and one write of the byte at EA, N and Z from the byte written (42_incdec.md R140, R143). `f` is the
change. -/
def opStep (f : Byte → Byte) (o : Operand) (s : State) : State :=
  let r := f (s.loadOperand o)
  ((s.storeOperand o r).setNZ r).advance o

/-- The byte after a decrement, modulo 256 (42_incdec.md R140 to R142). -/
def decremented (v : Byte) : Byte := v - 1

/-- The byte after an increment, modulo 256 (42_incdec.md R143 to R145). -/
def incremented (v : Byte) : Byte := v + 1

/-- DEC, zeropage (R83; 42_incdec.md R140). -/
def execDecZp (b : Byte) (s : State) : Host.Outcome State Fault Refusal :=
  .next (opStep decremented (.zeropage b) s)

/-- DEC, zeropage,X (R84; 42_incdec.md R140). -/
def execDecZpX (b : Byte) (s : State) : Host.Outcome State Fault Refusal :=
  .next (opStep decremented (.zeropageX b) s)

/-- DEC, absolute (R86; 42_incdec.md R140). -/
def execDecAbs (w : Word) (s : State) : Host.Outcome State Fault Refusal :=
  .next (opStep decremented (.absolute w) s)

/-- DEC, absolute,X (R87; 42_incdec.md R140). -/
def execDecAbsX (w : Word) (s : State) : Host.Outcome State Fault Refusal :=
  .next (opStep decremented (.absoluteX w) s)

/-- DEX: `X <- X - 1` (42_incdec.md R141). -/
def execDex (s : State) : Host.Outcome State Fault Refusal :=
  .next (((s.setX (decremented s.x)).setNZ (decremented s.x)).advance .implied)

/-- DEY: `Y <- Y - 1` (42_incdec.md R142). -/
def execDey (s : State) : Host.Outcome State Fault Refusal :=
  .next (((s.setY (decremented s.y)).setNZ (decremented s.y)).advance .implied)

/-- INC, zeropage (R83; 42_incdec.md R143). -/
def execIncZp (b : Byte) (s : State) : Host.Outcome State Fault Refusal :=
  .next (opStep incremented (.zeropage b) s)

/-- INC, zeropage,X (R84; 42_incdec.md R143). -/
def execIncZpX (b : Byte) (s : State) : Host.Outcome State Fault Refusal :=
  .next (opStep incremented (.zeropageX b) s)

/-- INC, absolute (R86; 42_incdec.md R143). -/
def execIncAbs (w : Word) (s : State) : Host.Outcome State Fault Refusal :=
  .next (opStep incremented (.absolute w) s)

/-- INC, absolute,X (R87; 42_incdec.md R143). -/
def execIncAbsX (w : Word) (s : State) : Host.Outcome State Fault Refusal :=
  .next (opStep incremented (.absoluteX w) s)

/-- INX: `X <- X + 1` (42_incdec.md R144). -/
def execInx (s : State) : Host.Outcome State Fault Refusal :=
  .next (((s.setX (incremented s.x)).setNZ (incremented s.x)).advance .implied)

/-- INY: `Y <- Y + 1` (42_incdec.md R145). -/
def execIny (s : State) : Host.Outcome State Fault Refusal :=
  .next (((s.setY (incremented s.y)).setNZ (incremented s.y)).advance .implied)

end Sys2Proof.Machine
end

