-- ==== Sys2Proof/Machine/Logical.lean ====
section
/-! DEFINITION. Logical operations (44_logical.md R160 to R163). -/

namespace Sys2Proof.Machine

/-- AND, EOR, ORA: `A <- f(A, M)`, N and Z from the result (44_logical.md R160 to R162). -/
def opLogic (f : Byte → Byte → Byte) (o : Operand) (s : State) : State :=
  let r := f s.a (s.loadOperand o)
  ((s.setA r).setNZ r).advance o

/-- AND, immediate (R82; 44_logical.md R160). -/
def execAndImm (b : Byte) (s : State) : Host.Outcome State Fault Refusal :=
  .next (opLogic (fun a m => a &&& m) (.immediate b) s)

/-- AND, zeropage (R83; 44_logical.md R160). -/
def execAndZp (b : Byte) (s : State) : Host.Outcome State Fault Refusal :=
  .next (opLogic (fun a m => a &&& m) (.zeropage b) s)

/-- AND, zeropage,X (R84; 44_logical.md R160). -/
def execAndZpX (b : Byte) (s : State) : Host.Outcome State Fault Refusal :=
  .next (opLogic (fun a m => a &&& m) (.zeropageX b) s)

/-- AND, absolute (R86; 44_logical.md R160). -/
def execAndAbs (w : Word) (s : State) : Host.Outcome State Fault Refusal :=
  .next (opLogic (fun a m => a &&& m) (.absolute w) s)

/-- AND, absolute,X (R87; 44_logical.md R160). -/
def execAndAbsX (w : Word) (s : State) : Host.Outcome State Fault Refusal :=
  .next (opLogic (fun a m => a &&& m) (.absoluteX w) s)

/-- AND, absolute,Y (R88; 44_logical.md R160). -/
def execAndAbsY (w : Word) (s : State) : Host.Outcome State Fault Refusal :=
  .next (opLogic (fun a m => a &&& m) (.absoluteY w) s)

/-- AND, (indirect,X) (R91; 44_logical.md R160). -/
def execAndIndX (b : Byte) (s : State) : Host.Outcome State Fault Refusal :=
  .next (opLogic (fun a m => a &&& m) (.indirectX b) s)

/-- AND, (indirect),Y (R92; 44_logical.md R160). -/
def execAndIndY (b : Byte) (s : State) : Host.Outcome State Fault Refusal :=
  .next (opLogic (fun a m => a &&& m) (.indirectY b) s)

/-- EOR, immediate (R82; 44_logical.md R161). -/
def execEorImm (b : Byte) (s : State) : Host.Outcome State Fault Refusal :=
  .next (opLogic (fun a m => a ^^^ m) (.immediate b) s)

/-- EOR, zeropage (R83; 44_logical.md R161). -/
def execEorZp (b : Byte) (s : State) : Host.Outcome State Fault Refusal :=
  .next (opLogic (fun a m => a ^^^ m) (.zeropage b) s)

/-- EOR, zeropage,X (R84; 44_logical.md R161). -/
def execEorZpX (b : Byte) (s : State) : Host.Outcome State Fault Refusal :=
  .next (opLogic (fun a m => a ^^^ m) (.zeropageX b) s)

/-- EOR, absolute (R86; 44_logical.md R161). -/
def execEorAbs (w : Word) (s : State) : Host.Outcome State Fault Refusal :=
  .next (opLogic (fun a m => a ^^^ m) (.absolute w) s)

/-- EOR, absolute,X (R87; 44_logical.md R161). -/
def execEorAbsX (w : Word) (s : State) : Host.Outcome State Fault Refusal :=
  .next (opLogic (fun a m => a ^^^ m) (.absoluteX w) s)

/-- EOR, absolute,Y (R88; 44_logical.md R161). -/
def execEorAbsY (w : Word) (s : State) : Host.Outcome State Fault Refusal :=
  .next (opLogic (fun a m => a ^^^ m) (.absoluteY w) s)

/-- EOR, (indirect,X) (R91; 44_logical.md R161). -/
def execEorIndX (b : Byte) (s : State) : Host.Outcome State Fault Refusal :=
  .next (opLogic (fun a m => a ^^^ m) (.indirectX b) s)

/-- EOR, (indirect),Y (R92; 44_logical.md R161). -/
def execEorIndY (b : Byte) (s : State) : Host.Outcome State Fault Refusal :=
  .next (opLogic (fun a m => a ^^^ m) (.indirectY b) s)

/-- ORA, immediate (R82; 44_logical.md R162). -/
def execOraImm (b : Byte) (s : State) : Host.Outcome State Fault Refusal :=
  .next (opLogic (fun a m => a ||| m) (.immediate b) s)

/-- ORA, zeropage (R83; 44_logical.md R162). -/
def execOraZp (b : Byte) (s : State) : Host.Outcome State Fault Refusal :=
  .next (opLogic (fun a m => a ||| m) (.zeropage b) s)

/-- ORA, zeropage,X (R84; 44_logical.md R162). -/
def execOraZpX (b : Byte) (s : State) : Host.Outcome State Fault Refusal :=
  .next (opLogic (fun a m => a ||| m) (.zeropageX b) s)

/-- ORA, absolute (R86; 44_logical.md R162). -/
def execOraAbs (w : Word) (s : State) : Host.Outcome State Fault Refusal :=
  .next (opLogic (fun a m => a ||| m) (.absolute w) s)

/-- ORA, absolute,X (R87; 44_logical.md R162). -/
def execOraAbsX (w : Word) (s : State) : Host.Outcome State Fault Refusal :=
  .next (opLogic (fun a m => a ||| m) (.absoluteX w) s)

/-- ORA, absolute,Y (R88; 44_logical.md R162). -/
def execOraAbsY (w : Word) (s : State) : Host.Outcome State Fault Refusal :=
  .next (opLogic (fun a m => a ||| m) (.absoluteY w) s)

/-- ORA, (indirect,X) (R91; 44_logical.md R162). -/
def execOraIndX (b : Byte) (s : State) : Host.Outcome State Fault Refusal :=
  .next (opLogic (fun a m => a ||| m) (.indirectX b) s)

/-- ORA, (indirect),Y (R92; 44_logical.md R162). -/
def execOraIndY (b : Byte) (s : State) : Host.Outcome State Fault Refusal :=
  .next (opLogic (fun a m => a ||| m) (.indirectY b) s)

end Sys2Proof.Machine
end

