-- ==== Sys2Proof/Machine/Shift.lean ====
section
/-! DEFINITION. Shift and rotate instructions (45_shift_rotate.md R170 to R174). -/

namespace Sys2Proof.Machine

/-- ASL, LSR, ROL, ROR: result and carry from the operand and the old carry, the result stored where the operand was, N and Z
from the result (45_shift_rotate.md R170 to R174; for LSR the result's bit 7 is 0, so N is cleared). -/
def opShift (f : Byte → Bool → ShiftResult) (o : Operand) (s : State) : State :=
  let q := f (s.loadOperand o) s.c
  (((s.setC q.c).storeOperand o q.r).setNZ q.r).advance o

/-- ASL, accumulator (R81; 45_shift_rotate.md R170). -/
def execAslAcc (s : State) : Host.Outcome State Fault Refusal :=
  .next (opShift aslResult .accumulator s)

/-- ASL, zeropage (R83; 45_shift_rotate.md R170). -/
def execAslZp (b : Byte) (s : State) : Host.Outcome State Fault Refusal :=
  .next (opShift aslResult (.zeropage b) s)

/-- ASL, zeropage,X (R84; 45_shift_rotate.md R170). -/
def execAslZpX (b : Byte) (s : State) : Host.Outcome State Fault Refusal :=
  .next (opShift aslResult (.zeropageX b) s)

/-- ASL, absolute (R86; 45_shift_rotate.md R170). -/
def execAslAbs (w : Word) (s : State) : Host.Outcome State Fault Refusal :=
  .next (opShift aslResult (.absolute w) s)

/-- ASL, absolute,X (R87; 45_shift_rotate.md R170). -/
def execAslAbsX (w : Word) (s : State) : Host.Outcome State Fault Refusal :=
  .next (opShift aslResult (.absoluteX w) s)

/-- LSR, accumulator (R81; 45_shift_rotate.md R171). -/
def execLsrAcc (s : State) : Host.Outcome State Fault Refusal :=
  .next (opShift lsrResult .accumulator s)

/-- LSR, zeropage (R83; 45_shift_rotate.md R171). -/
def execLsrZp (b : Byte) (s : State) : Host.Outcome State Fault Refusal :=
  .next (opShift lsrResult (.zeropage b) s)

/-- LSR, zeropage,X (R84; 45_shift_rotate.md R171). -/
def execLsrZpX (b : Byte) (s : State) : Host.Outcome State Fault Refusal :=
  .next (opShift lsrResult (.zeropageX b) s)

/-- LSR, absolute (R86; 45_shift_rotate.md R171). -/
def execLsrAbs (w : Word) (s : State) : Host.Outcome State Fault Refusal :=
  .next (opShift lsrResult (.absolute w) s)

/-- LSR, absolute,X (R87; 45_shift_rotate.md R171). -/
def execLsrAbsX (w : Word) (s : State) : Host.Outcome State Fault Refusal :=
  .next (opShift lsrResult (.absoluteX w) s)

/-- ROL, accumulator (R81; 45_shift_rotate.md R172). -/
def execRolAcc (s : State) : Host.Outcome State Fault Refusal :=
  .next (opShift rolResult .accumulator s)

/-- ROL, zeropage (R83; 45_shift_rotate.md R172). -/
def execRolZp (b : Byte) (s : State) : Host.Outcome State Fault Refusal :=
  .next (opShift rolResult (.zeropage b) s)

/-- ROL, zeropage,X (R84; 45_shift_rotate.md R172). -/
def execRolZpX (b : Byte) (s : State) : Host.Outcome State Fault Refusal :=
  .next (opShift rolResult (.zeropageX b) s)

/-- ROL, absolute (R86; 45_shift_rotate.md R172). -/
def execRolAbs (w : Word) (s : State) : Host.Outcome State Fault Refusal :=
  .next (opShift rolResult (.absolute w) s)

/-- ROL, absolute,X (R87; 45_shift_rotate.md R172). -/
def execRolAbsX (w : Word) (s : State) : Host.Outcome State Fault Refusal :=
  .next (opShift rolResult (.absoluteX w) s)

/-- ROR, accumulator (R81; 45_shift_rotate.md R173). -/
def execRorAcc (s : State) : Host.Outcome State Fault Refusal :=
  .next (opShift rorResult .accumulator s)

/-- ROR, zeropage (R83; 45_shift_rotate.md R173). -/
def execRorZp (b : Byte) (s : State) : Host.Outcome State Fault Refusal :=
  .next (opShift rorResult (.zeropage b) s)

/-- ROR, zeropage,X (R84; 45_shift_rotate.md R173). -/
def execRorZpX (b : Byte) (s : State) : Host.Outcome State Fault Refusal :=
  .next (opShift rorResult (.zeropageX b) s)

/-- ROR, absolute (R86; 45_shift_rotate.md R173). -/
def execRorAbs (w : Word) (s : State) : Host.Outcome State Fault Refusal :=
  .next (opShift rorResult (.absolute w) s)

/-- ROR, absolute,X (R87; 45_shift_rotate.md R173). -/
def execRorAbsX (w : Word) (s : State) : Host.Outcome State Fault Refusal :=
  .next (opShift rorResult (.absoluteX w) s)

end Sys2Proof.Machine
end

