-- ==== Sys2Proof/Machine/Stack.lean ====
section
/-! DEFINITION. Stack instructions (41_stack.md R130 to R134). -/

namespace Sys2Proof.Machine

/-- PHA: push A (41_stack.md R130). -/
def execPha (s : State) : Host.Outcome State Fault Refusal :=
  .next ((s.push s.a).advance .implied)

/-- PHP: push the status byte with the break flag and bit 5 set (41_stack.md R131). -/
def execPhp (s : State) : Host.Outcome State Fault Refusal :=
  .next ((s.push (s.srByte true)).advance .implied)

/-- PLA: pull A, N and Z from it (41_stack.md R132). -/
def execPla (s : State) : Host.Outcome State Fault Refusal :=
  .next (((s.pull.2.setA s.pull.1).setNZ s.pull.1).advance .implied)

/-- PLP: pull the six flags (41_stack.md R133). -/
def execPlp (s : State) : Host.Outcome State Fault Refusal :=
  .next ((s.pull.2.setSR s.pull.1).advance .implied)

end Sys2Proof.Machine
end

