-- ==== Sys2Proof/Machine/System.lean ====
section
/-! DEFINITION. Interrupt instructions and others (49_interrupt_other.md R220 to R223). -/

namespace Sys2Proof.Machine

/-- BIT: N and V from bits 7 and 6 of the byte, Z from `A AND M`; A keeps its value (49_interrupt_other.md R222). -/
def opBit (o : Operand) (s : State) : State :=
  let m := s.loadOperand o
  (((s.setN (m.getLsbD 7)).setV (m.getLsbD 6)).setZ (zeroFlag (s.a &&& m))).advance o

/-- BRK: enter the handler at `VEC_BRK` with return address PC + 2 and the break flag set, whatever I is (90_conflicts.md
C2, C3, C7) (49_interrupt_other.md R220). -/
def execBrk (s : State) : Host.Outcome State Fault Refusal :=
  .next (s.enterHandler (s.pc + 2) s.cfg.vecBrk true)

/-- RTI: pull the six flags, then PC as it stands (90_conflicts.md C4) (49_interrupt_other.md R221). -/
def execRti (s : State) : Host.Outcome State Fault Refusal :=
  .next (s.leaveHandler)

/-- BIT, zeropage (R83; 49_interrupt_other.md R222). -/
def execBitZp (b : Byte) (s : State) : Host.Outcome State Fault Refusal :=
  .next (opBit (.zeropage b) s)

/-- BIT, absolute (R86; 49_interrupt_other.md R222). -/
def execBitAbs (w : Word) (s : State) : Host.Outcome State Fault Refusal :=
  .next (opBit (.absolute w) s)

/-- NOP: only PC moves on (49_interrupt_other.md R223). -/
def execNop (s : State) : Host.Outcome State Fault Refusal :=
  .next (s.advance .implied)

end Sys2Proof.Machine
end

