-- ==== Sys2Proof/Machine/Transfer.lean ====
section
/-! DEFINITION. Transfer instructions (40_transfer.md R110 to R122). -/

namespace Sys2Proof.Machine

/-- LDA: `A <- M`, N and Z from the byte (40_transfer.md R110). -/
def opLda (o : Operand) (s : State) : State :=
  let v := s.loadOperand o
  ((s.setA v).setNZ v).advance o

/-- LDX: `X <- M`, N and Z from the byte (40_transfer.md R111). -/
def opLdx (o : Operand) (s : State) : State :=
  let v := s.loadOperand o
  ((s.setX v).setNZ v).advance o

/-- LDY: `Y <- M`, N and Z from the byte (40_transfer.md R112). -/
def opLdy (o : Operand) (s : State) : State :=
  let v := s.loadOperand o
  ((s.setY v).setNZ v).advance o

/-- STA, STX, STY: `M <- v`, no flag (40_transfer.md R113 to R115). -/
def opStore (o : Operand) (v : Byte) (s : State) : State := (s.storeOperand o v).advance o

/-- LDA, immediate (R82; 40_transfer.md R110). -/
def execLdaImm (b : Byte) (s : State) : Host.Outcome State Fault Refusal :=
  .next (opLda (.immediate b) s)

/-- LDA, zeropage (R83; 40_transfer.md R110). -/
def execLdaZp (b : Byte) (s : State) : Host.Outcome State Fault Refusal :=
  .next (opLda (.zeropage b) s)

/-- LDA, zeropage,X (R84; 40_transfer.md R110). -/
def execLdaZpX (b : Byte) (s : State) : Host.Outcome State Fault Refusal :=
  .next (opLda (.zeropageX b) s)

/-- LDA, absolute (R86; 40_transfer.md R110). -/
def execLdaAbs (w : Word) (s : State) : Host.Outcome State Fault Refusal :=
  .next (opLda (.absolute w) s)

/-- LDA, absolute,X (R87; 40_transfer.md R110). -/
def execLdaAbsX (w : Word) (s : State) : Host.Outcome State Fault Refusal :=
  .next (opLda (.absoluteX w) s)

/-- LDA, absolute,Y (R88; 40_transfer.md R110). -/
def execLdaAbsY (w : Word) (s : State) : Host.Outcome State Fault Refusal :=
  .next (opLda (.absoluteY w) s)

/-- LDA, (indirect,X) (R91; 40_transfer.md R110). -/
def execLdaIndX (b : Byte) (s : State) : Host.Outcome State Fault Refusal :=
  .next (opLda (.indirectX b) s)

/-- LDA, (indirect),Y (R92; 40_transfer.md R110). -/
def execLdaIndY (b : Byte) (s : State) : Host.Outcome State Fault Refusal :=
  .next (opLda (.indirectY b) s)

/-- LDX, immediate (R82; 40_transfer.md R111). -/
def execLdxImm (b : Byte) (s : State) : Host.Outcome State Fault Refusal :=
  .next (opLdx (.immediate b) s)

/-- LDX, zeropage (R83; 40_transfer.md R111). -/
def execLdxZp (b : Byte) (s : State) : Host.Outcome State Fault Refusal :=
  .next (opLdx (.zeropage b) s)

/-- LDX, zeropage,Y (R85; 40_transfer.md R111). -/
def execLdxZpY (b : Byte) (s : State) : Host.Outcome State Fault Refusal :=
  .next (opLdx (.zeropageY b) s)

/-- LDX, absolute (R86; 40_transfer.md R111). -/
def execLdxAbs (w : Word) (s : State) : Host.Outcome State Fault Refusal :=
  .next (opLdx (.absolute w) s)

/-- LDX, absolute,Y (R88; 40_transfer.md R111). -/
def execLdxAbsY (w : Word) (s : State) : Host.Outcome State Fault Refusal :=
  .next (opLdx (.absoluteY w) s)

/-- LDY, immediate (R82; 40_transfer.md R112). -/
def execLdyImm (b : Byte) (s : State) : Host.Outcome State Fault Refusal :=
  .next (opLdy (.immediate b) s)

/-- LDY, zeropage (R83; 40_transfer.md R112). -/
def execLdyZp (b : Byte) (s : State) : Host.Outcome State Fault Refusal :=
  .next (opLdy (.zeropage b) s)

/-- LDY, zeropage,X (R84; 40_transfer.md R112). -/
def execLdyZpX (b : Byte) (s : State) : Host.Outcome State Fault Refusal :=
  .next (opLdy (.zeropageX b) s)

/-- LDY, absolute (R86; 40_transfer.md R112). -/
def execLdyAbs (w : Word) (s : State) : Host.Outcome State Fault Refusal :=
  .next (opLdy (.absolute w) s)

/-- LDY, absolute,X (R87; 40_transfer.md R112). -/
def execLdyAbsX (w : Word) (s : State) : Host.Outcome State Fault Refusal :=
  .next (opLdy (.absoluteX w) s)

/-- STA, zeropage (R83; 40_transfer.md R113). -/
def execStaZp (b : Byte) (s : State) : Host.Outcome State Fault Refusal :=
  .next (opStore (.zeropage b) s.a s)

/-- STA, zeropage,X (R84; 40_transfer.md R113). -/
def execStaZpX (b : Byte) (s : State) : Host.Outcome State Fault Refusal :=
  .next (opStore (.zeropageX b) s.a s)

/-- STA, absolute (R86; 40_transfer.md R113). -/
def execStaAbs (w : Word) (s : State) : Host.Outcome State Fault Refusal :=
  .next (opStore (.absolute w) s.a s)

/-- STA, absolute,X (R87; 40_transfer.md R113). -/
def execStaAbsX (w : Word) (s : State) : Host.Outcome State Fault Refusal :=
  .next (opStore (.absoluteX w) s.a s)

/-- STA, absolute,Y (R88; 40_transfer.md R113). -/
def execStaAbsY (w : Word) (s : State) : Host.Outcome State Fault Refusal :=
  .next (opStore (.absoluteY w) s.a s)

/-- STA, (indirect,X) (R91; 40_transfer.md R113). -/
def execStaIndX (b : Byte) (s : State) : Host.Outcome State Fault Refusal :=
  .next (opStore (.indirectX b) s.a s)

/-- STA, (indirect),Y (R92; 40_transfer.md R113). -/
def execStaIndY (b : Byte) (s : State) : Host.Outcome State Fault Refusal :=
  .next (opStore (.indirectY b) s.a s)

/-- STX, zeropage (R83; 40_transfer.md R114). -/
def execStxZp (b : Byte) (s : State) : Host.Outcome State Fault Refusal :=
  .next (opStore (.zeropage b) s.x s)

/-- STX, zeropage,Y (R85; 40_transfer.md R114). -/
def execStxZpY (b : Byte) (s : State) : Host.Outcome State Fault Refusal :=
  .next (opStore (.zeropageY b) s.x s)

/-- STX, absolute (R86; 40_transfer.md R114). -/
def execStxAbs (w : Word) (s : State) : Host.Outcome State Fault Refusal :=
  .next (opStore (.absolute w) s.x s)

/-- STY, zeropage (R83; 40_transfer.md R115). -/
def execStyZp (b : Byte) (s : State) : Host.Outcome State Fault Refusal :=
  .next (opStore (.zeropage b) s.y s)

/-- STY, zeropage,X (R84; 40_transfer.md R115). -/
def execStyZpX (b : Byte) (s : State) : Host.Outcome State Fault Refusal :=
  .next (opStore (.zeropageX b) s.y s)

/-- STY, absolute (R86; 40_transfer.md R115). -/
def execStyAbs (w : Word) (s : State) : Host.Outcome State Fault Refusal :=
  .next (opStore (.absolute w) s.y s)

/-- TAX: `X <- A`, N and Z from the byte moved (40_transfer.md R116). -/
def execTax (s : State) : Host.Outcome State Fault Refusal :=
  .next (((s.setX s.a).setNZ s.a).advance .implied)

/-- TAY: `Y <- A`, N and Z from the byte moved (40_transfer.md R117). -/
def execTay (s : State) : Host.Outcome State Fault Refusal :=
  .next (((s.setY s.a).setNZ s.a).advance .implied)

/-- TSX: `X <- SP`, N and Z from the byte moved (40_transfer.md R118). -/
def execTsx (s : State) : Host.Outcome State Fault Refusal :=
  .next (((s.setX s.sp).setNZ s.sp).advance .implied)

/-- TXA: `A <- X`, N and Z from the byte moved (40_transfer.md R119). -/
def execTxa (s : State) : Host.Outcome State Fault Refusal :=
  .next (((s.setA s.x).setNZ s.x).advance .implied)

/-- TXS: `SP <- X`, no flag (40_transfer.md R120). -/
def execTxs (s : State) : Host.Outcome State Fault Refusal :=
  .next ((s.setSP s.x).advance .implied)

/-- TYA: `A <- Y`, N and Z from the byte moved (40_transfer.md R121). -/
def execTya (s : State) : Host.Outcome State Fault Refusal :=
  .next (((s.setA s.y).setNZ s.y).advance .implied)

end Sys2Proof.Machine
end

