-- ==== Sys2Proof/Machine/Step.lean ====
section
/-! DEFINITION. One step of the machine (60_exceptions.md R232), and how a test places the instruction the next step fetches. -/

namespace Sys2Proof.Machine

/-- `Step` (60_exceptions.md R232): one interrupt entry, or one whole instruction. A byte at PC that the opcode table does not
list is refused (30_encoding.md R77). -/
def step (s : State) : Host.Outcome State Fault Refusal :=
  match s.pendingEntry with
  | some t => .next t
  | none =>
    match decode s.fetchBytes with
    | .ok i _ => exec i s
    | .error _ => .refused (.unlistedOpcode (s.fetchByte 0))

/-- `s` with the instruction whose bits are `w` stored where `step` fetches its next instruction (log 10). -/
def State.withFetchWord (s : State) (nbits w : Nat) : State := s.placeAtPC (tableBytes nbits w)

end Sys2Proof.Machine
end

