-- ==== Sys2Proof/Laws/PerInstr.lean ====
section
/-! SUPPORT. The family of per-instruction statements `EncodeLength`: an instruction's bytes are as many as its format says,
and they begin with its opcode (30_encoding.md R70, R71). One lemma per constructor of `Instr`. -/

namespace Sys2Proof.Laws

/-- The encoding of `i` has the length of its format, one, two or three bytes (30_encoding.md R70, R71). -/
def EncodeLength.Statement (i : Instr) : Prop :=
  (encode i).length = i.length ∧ 1 ≤ i.length ∧ i.length ≤ 3

/-- A mode's length is one, two or three (30_encoding.md R70). -/
theorem mode_length_bounds (m : Mode) : 1 ≤ m.length ∧ m.length ≤ 3 := by cases m <;> decide

theorem EncodeLength.adcImm (b : Byte) : EncodeLength.Statement (.adcImm b) := ⟨rfl, mode_length_bounds _⟩
theorem EncodeLength.adcZp (b : Byte) : EncodeLength.Statement (.adcZp b) := ⟨rfl, mode_length_bounds _⟩
theorem EncodeLength.adcZpX (b : Byte) : EncodeLength.Statement (.adcZpX b) := ⟨rfl, mode_length_bounds _⟩
theorem EncodeLength.adcAbs (w : Word) : EncodeLength.Statement (.adcAbs w) := ⟨rfl, mode_length_bounds _⟩
theorem EncodeLength.adcAbsX (w : Word) : EncodeLength.Statement (.adcAbsX w) := ⟨rfl, mode_length_bounds _⟩
theorem EncodeLength.adcAbsY (w : Word) : EncodeLength.Statement (.adcAbsY w) := ⟨rfl, mode_length_bounds _⟩
theorem EncodeLength.adcIndX (b : Byte) : EncodeLength.Statement (.adcIndX b) := ⟨rfl, mode_length_bounds _⟩
theorem EncodeLength.adcIndY (b : Byte) : EncodeLength.Statement (.adcIndY b) := ⟨rfl, mode_length_bounds _⟩
theorem EncodeLength.andImm (b : Byte) : EncodeLength.Statement (.andImm b) := ⟨rfl, mode_length_bounds _⟩
theorem EncodeLength.andZp (b : Byte) : EncodeLength.Statement (.andZp b) := ⟨rfl, mode_length_bounds _⟩
theorem EncodeLength.andZpX (b : Byte) : EncodeLength.Statement (.andZpX b) := ⟨rfl, mode_length_bounds _⟩
theorem EncodeLength.andAbs (w : Word) : EncodeLength.Statement (.andAbs w) := ⟨rfl, mode_length_bounds _⟩
theorem EncodeLength.andAbsX (w : Word) : EncodeLength.Statement (.andAbsX w) := ⟨rfl, mode_length_bounds _⟩
theorem EncodeLength.andAbsY (w : Word) : EncodeLength.Statement (.andAbsY w) := ⟨rfl, mode_length_bounds _⟩
theorem EncodeLength.andIndX (b : Byte) : EncodeLength.Statement (.andIndX b) := ⟨rfl, mode_length_bounds _⟩
theorem EncodeLength.andIndY (b : Byte) : EncodeLength.Statement (.andIndY b) := ⟨rfl, mode_length_bounds _⟩
theorem EncodeLength.aslAcc : EncodeLength.Statement .aslAcc := ⟨rfl, mode_length_bounds _⟩
theorem EncodeLength.aslZp (b : Byte) : EncodeLength.Statement (.aslZp b) := ⟨rfl, mode_length_bounds _⟩
theorem EncodeLength.aslZpX (b : Byte) : EncodeLength.Statement (.aslZpX b) := ⟨rfl, mode_length_bounds _⟩
theorem EncodeLength.aslAbs (w : Word) : EncodeLength.Statement (.aslAbs w) := ⟨rfl, mode_length_bounds _⟩
theorem EncodeLength.aslAbsX (w : Word) : EncodeLength.Statement (.aslAbsX w) := ⟨rfl, mode_length_bounds _⟩
theorem EncodeLength.bcc (b : Byte) : EncodeLength.Statement (.bcc b) := ⟨rfl, mode_length_bounds _⟩
theorem EncodeLength.bcs (b : Byte) : EncodeLength.Statement (.bcs b) := ⟨rfl, mode_length_bounds _⟩
theorem EncodeLength.beq (b : Byte) : EncodeLength.Statement (.beq b) := ⟨rfl, mode_length_bounds _⟩
theorem EncodeLength.bitZp (b : Byte) : EncodeLength.Statement (.bitZp b) := ⟨rfl, mode_length_bounds _⟩
theorem EncodeLength.bitAbs (w : Word) : EncodeLength.Statement (.bitAbs w) := ⟨rfl, mode_length_bounds _⟩
theorem EncodeLength.bmi (b : Byte) : EncodeLength.Statement (.bmi b) := ⟨rfl, mode_length_bounds _⟩
theorem EncodeLength.bne (b : Byte) : EncodeLength.Statement (.bne b) := ⟨rfl, mode_length_bounds _⟩
theorem EncodeLength.bpl (b : Byte) : EncodeLength.Statement (.bpl b) := ⟨rfl, mode_length_bounds _⟩
theorem EncodeLength.brk : EncodeLength.Statement .brk := ⟨rfl, mode_length_bounds _⟩
theorem EncodeLength.bvc (b : Byte) : EncodeLength.Statement (.bvc b) := ⟨rfl, mode_length_bounds _⟩
theorem EncodeLength.bvs (b : Byte) : EncodeLength.Statement (.bvs b) := ⟨rfl, mode_length_bounds _⟩
theorem EncodeLength.clc : EncodeLength.Statement .clc := ⟨rfl, mode_length_bounds _⟩
theorem EncodeLength.cld : EncodeLength.Statement .cld := ⟨rfl, mode_length_bounds _⟩
theorem EncodeLength.cli : EncodeLength.Statement .cli := ⟨rfl, mode_length_bounds _⟩
theorem EncodeLength.clv : EncodeLength.Statement .clv := ⟨rfl, mode_length_bounds _⟩
theorem EncodeLength.cmpImm (b : Byte) : EncodeLength.Statement (.cmpImm b) := ⟨rfl, mode_length_bounds _⟩
theorem EncodeLength.cmpZp (b : Byte) : EncodeLength.Statement (.cmpZp b) := ⟨rfl, mode_length_bounds _⟩
theorem EncodeLength.cmpZpX (b : Byte) : EncodeLength.Statement (.cmpZpX b) := ⟨rfl, mode_length_bounds _⟩
theorem EncodeLength.cmpAbs (w : Word) : EncodeLength.Statement (.cmpAbs w) := ⟨rfl, mode_length_bounds _⟩
theorem EncodeLength.cmpAbsX (w : Word) : EncodeLength.Statement (.cmpAbsX w) := ⟨rfl, mode_length_bounds _⟩
theorem EncodeLength.cmpAbsY (w : Word) : EncodeLength.Statement (.cmpAbsY w) := ⟨rfl, mode_length_bounds _⟩
theorem EncodeLength.cmpIndX (b : Byte) : EncodeLength.Statement (.cmpIndX b) := ⟨rfl, mode_length_bounds _⟩
theorem EncodeLength.cmpIndY (b : Byte) : EncodeLength.Statement (.cmpIndY b) := ⟨rfl, mode_length_bounds _⟩
theorem EncodeLength.cpxImm (b : Byte) : EncodeLength.Statement (.cpxImm b) := ⟨rfl, mode_length_bounds _⟩
theorem EncodeLength.cpxZp (b : Byte) : EncodeLength.Statement (.cpxZp b) := ⟨rfl, mode_length_bounds _⟩
theorem EncodeLength.cpxAbs (w : Word) : EncodeLength.Statement (.cpxAbs w) := ⟨rfl, mode_length_bounds _⟩
theorem EncodeLength.cpyImm (b : Byte) : EncodeLength.Statement (.cpyImm b) := ⟨rfl, mode_length_bounds _⟩
theorem EncodeLength.cpyZp (b : Byte) : EncodeLength.Statement (.cpyZp b) := ⟨rfl, mode_length_bounds _⟩
theorem EncodeLength.cpyAbs (w : Word) : EncodeLength.Statement (.cpyAbs w) := ⟨rfl, mode_length_bounds _⟩
theorem EncodeLength.decZp (b : Byte) : EncodeLength.Statement (.decZp b) := ⟨rfl, mode_length_bounds _⟩
theorem EncodeLength.decZpX (b : Byte) : EncodeLength.Statement (.decZpX b) := ⟨rfl, mode_length_bounds _⟩
theorem EncodeLength.decAbs (w : Word) : EncodeLength.Statement (.decAbs w) := ⟨rfl, mode_length_bounds _⟩
theorem EncodeLength.decAbsX (w : Word) : EncodeLength.Statement (.decAbsX w) := ⟨rfl, mode_length_bounds _⟩
theorem EncodeLength.dex : EncodeLength.Statement .dex := ⟨rfl, mode_length_bounds _⟩
theorem EncodeLength.dey : EncodeLength.Statement .dey := ⟨rfl, mode_length_bounds _⟩
theorem EncodeLength.eorImm (b : Byte) : EncodeLength.Statement (.eorImm b) := ⟨rfl, mode_length_bounds _⟩
theorem EncodeLength.eorZp (b : Byte) : EncodeLength.Statement (.eorZp b) := ⟨rfl, mode_length_bounds _⟩
theorem EncodeLength.eorZpX (b : Byte) : EncodeLength.Statement (.eorZpX b) := ⟨rfl, mode_length_bounds _⟩
theorem EncodeLength.eorAbs (w : Word) : EncodeLength.Statement (.eorAbs w) := ⟨rfl, mode_length_bounds _⟩
theorem EncodeLength.eorAbsX (w : Word) : EncodeLength.Statement (.eorAbsX w) := ⟨rfl, mode_length_bounds _⟩
theorem EncodeLength.eorAbsY (w : Word) : EncodeLength.Statement (.eorAbsY w) := ⟨rfl, mode_length_bounds _⟩
theorem EncodeLength.eorIndX (b : Byte) : EncodeLength.Statement (.eorIndX b) := ⟨rfl, mode_length_bounds _⟩
theorem EncodeLength.eorIndY (b : Byte) : EncodeLength.Statement (.eorIndY b) := ⟨rfl, mode_length_bounds _⟩
theorem EncodeLength.incZp (b : Byte) : EncodeLength.Statement (.incZp b) := ⟨rfl, mode_length_bounds _⟩
theorem EncodeLength.incZpX (b : Byte) : EncodeLength.Statement (.incZpX b) := ⟨rfl, mode_length_bounds _⟩
theorem EncodeLength.incAbs (w : Word) : EncodeLength.Statement (.incAbs w) := ⟨rfl, mode_length_bounds _⟩
theorem EncodeLength.incAbsX (w : Word) : EncodeLength.Statement (.incAbsX w) := ⟨rfl, mode_length_bounds _⟩
theorem EncodeLength.inx : EncodeLength.Statement .inx := ⟨rfl, mode_length_bounds _⟩
theorem EncodeLength.iny : EncodeLength.Statement .iny := ⟨rfl, mode_length_bounds _⟩
theorem EncodeLength.jmpAbs (w : Word) : EncodeLength.Statement (.jmpAbs w) := ⟨rfl, mode_length_bounds _⟩
theorem EncodeLength.jmpInd (w : Word) : EncodeLength.Statement (.jmpInd w) := ⟨rfl, mode_length_bounds _⟩
theorem EncodeLength.jsr (w : Word) : EncodeLength.Statement (.jsr w) := ⟨rfl, mode_length_bounds _⟩
theorem EncodeLength.ldaImm (b : Byte) : EncodeLength.Statement (.ldaImm b) := ⟨rfl, mode_length_bounds _⟩
theorem EncodeLength.ldaZp (b : Byte) : EncodeLength.Statement (.ldaZp b) := ⟨rfl, mode_length_bounds _⟩
theorem EncodeLength.ldaZpX (b : Byte) : EncodeLength.Statement (.ldaZpX b) := ⟨rfl, mode_length_bounds _⟩
theorem EncodeLength.ldaAbs (w : Word) : EncodeLength.Statement (.ldaAbs w) := ⟨rfl, mode_length_bounds _⟩
theorem EncodeLength.ldaAbsX (w : Word) : EncodeLength.Statement (.ldaAbsX w) := ⟨rfl, mode_length_bounds _⟩
theorem EncodeLength.ldaAbsY (w : Word) : EncodeLength.Statement (.ldaAbsY w) := ⟨rfl, mode_length_bounds _⟩
theorem EncodeLength.ldaIndX (b : Byte) : EncodeLength.Statement (.ldaIndX b) := ⟨rfl, mode_length_bounds _⟩
theorem EncodeLength.ldaIndY (b : Byte) : EncodeLength.Statement (.ldaIndY b) := ⟨rfl, mode_length_bounds _⟩
theorem EncodeLength.ldxImm (b : Byte) : EncodeLength.Statement (.ldxImm b) := ⟨rfl, mode_length_bounds _⟩
theorem EncodeLength.ldxZp (b : Byte) : EncodeLength.Statement (.ldxZp b) := ⟨rfl, mode_length_bounds _⟩
theorem EncodeLength.ldxZpY (b : Byte) : EncodeLength.Statement (.ldxZpY b) := ⟨rfl, mode_length_bounds _⟩
theorem EncodeLength.ldxAbs (w : Word) : EncodeLength.Statement (.ldxAbs w) := ⟨rfl, mode_length_bounds _⟩
theorem EncodeLength.ldxAbsY (w : Word) : EncodeLength.Statement (.ldxAbsY w) := ⟨rfl, mode_length_bounds _⟩
theorem EncodeLength.ldyImm (b : Byte) : EncodeLength.Statement (.ldyImm b) := ⟨rfl, mode_length_bounds _⟩
theorem EncodeLength.ldyZp (b : Byte) : EncodeLength.Statement (.ldyZp b) := ⟨rfl, mode_length_bounds _⟩
theorem EncodeLength.ldyZpX (b : Byte) : EncodeLength.Statement (.ldyZpX b) := ⟨rfl, mode_length_bounds _⟩
theorem EncodeLength.ldyAbs (w : Word) : EncodeLength.Statement (.ldyAbs w) := ⟨rfl, mode_length_bounds _⟩
theorem EncodeLength.ldyAbsX (w : Word) : EncodeLength.Statement (.ldyAbsX w) := ⟨rfl, mode_length_bounds _⟩
theorem EncodeLength.lsrAcc : EncodeLength.Statement .lsrAcc := ⟨rfl, mode_length_bounds _⟩
theorem EncodeLength.lsrZp (b : Byte) : EncodeLength.Statement (.lsrZp b) := ⟨rfl, mode_length_bounds _⟩
theorem EncodeLength.lsrZpX (b : Byte) : EncodeLength.Statement (.lsrZpX b) := ⟨rfl, mode_length_bounds _⟩
theorem EncodeLength.lsrAbs (w : Word) : EncodeLength.Statement (.lsrAbs w) := ⟨rfl, mode_length_bounds _⟩
theorem EncodeLength.lsrAbsX (w : Word) : EncodeLength.Statement (.lsrAbsX w) := ⟨rfl, mode_length_bounds _⟩
theorem EncodeLength.nop : EncodeLength.Statement .nop := ⟨rfl, mode_length_bounds _⟩
theorem EncodeLength.oraImm (b : Byte) : EncodeLength.Statement (.oraImm b) := ⟨rfl, mode_length_bounds _⟩
theorem EncodeLength.oraZp (b : Byte) : EncodeLength.Statement (.oraZp b) := ⟨rfl, mode_length_bounds _⟩
theorem EncodeLength.oraZpX (b : Byte) : EncodeLength.Statement (.oraZpX b) := ⟨rfl, mode_length_bounds _⟩
theorem EncodeLength.oraAbs (w : Word) : EncodeLength.Statement (.oraAbs w) := ⟨rfl, mode_length_bounds _⟩
theorem EncodeLength.oraAbsX (w : Word) : EncodeLength.Statement (.oraAbsX w) := ⟨rfl, mode_length_bounds _⟩
theorem EncodeLength.oraAbsY (w : Word) : EncodeLength.Statement (.oraAbsY w) := ⟨rfl, mode_length_bounds _⟩
theorem EncodeLength.oraIndX (b : Byte) : EncodeLength.Statement (.oraIndX b) := ⟨rfl, mode_length_bounds _⟩
theorem EncodeLength.oraIndY (b : Byte) : EncodeLength.Statement (.oraIndY b) := ⟨rfl, mode_length_bounds _⟩
theorem EncodeLength.pha : EncodeLength.Statement .pha := ⟨rfl, mode_length_bounds _⟩
theorem EncodeLength.php : EncodeLength.Statement .php := ⟨rfl, mode_length_bounds _⟩
theorem EncodeLength.pla : EncodeLength.Statement .pla := ⟨rfl, mode_length_bounds _⟩
theorem EncodeLength.plp : EncodeLength.Statement .plp := ⟨rfl, mode_length_bounds _⟩
theorem EncodeLength.rolAcc : EncodeLength.Statement .rolAcc := ⟨rfl, mode_length_bounds _⟩
theorem EncodeLength.rolZp (b : Byte) : EncodeLength.Statement (.rolZp b) := ⟨rfl, mode_length_bounds _⟩
theorem EncodeLength.rolZpX (b : Byte) : EncodeLength.Statement (.rolZpX b) := ⟨rfl, mode_length_bounds _⟩
theorem EncodeLength.rolAbs (w : Word) : EncodeLength.Statement (.rolAbs w) := ⟨rfl, mode_length_bounds _⟩
theorem EncodeLength.rolAbsX (w : Word) : EncodeLength.Statement (.rolAbsX w) := ⟨rfl, mode_length_bounds _⟩
theorem EncodeLength.rorAcc : EncodeLength.Statement .rorAcc := ⟨rfl, mode_length_bounds _⟩
theorem EncodeLength.rorZp (b : Byte) : EncodeLength.Statement (.rorZp b) := ⟨rfl, mode_length_bounds _⟩
theorem EncodeLength.rorZpX (b : Byte) : EncodeLength.Statement (.rorZpX b) := ⟨rfl, mode_length_bounds _⟩
theorem EncodeLength.rorAbs (w : Word) : EncodeLength.Statement (.rorAbs w) := ⟨rfl, mode_length_bounds _⟩
theorem EncodeLength.rorAbsX (w : Word) : EncodeLength.Statement (.rorAbsX w) := ⟨rfl, mode_length_bounds _⟩
theorem EncodeLength.rti : EncodeLength.Statement .rti := ⟨rfl, mode_length_bounds _⟩
theorem EncodeLength.rts : EncodeLength.Statement .rts := ⟨rfl, mode_length_bounds _⟩
theorem EncodeLength.sbcImm (b : Byte) : EncodeLength.Statement (.sbcImm b) := ⟨rfl, mode_length_bounds _⟩
theorem EncodeLength.sbcZp (b : Byte) : EncodeLength.Statement (.sbcZp b) := ⟨rfl, mode_length_bounds _⟩
theorem EncodeLength.sbcZpX (b : Byte) : EncodeLength.Statement (.sbcZpX b) := ⟨rfl, mode_length_bounds _⟩
theorem EncodeLength.sbcAbs (w : Word) : EncodeLength.Statement (.sbcAbs w) := ⟨rfl, mode_length_bounds _⟩
theorem EncodeLength.sbcAbsX (w : Word) : EncodeLength.Statement (.sbcAbsX w) := ⟨rfl, mode_length_bounds _⟩
theorem EncodeLength.sbcAbsY (w : Word) : EncodeLength.Statement (.sbcAbsY w) := ⟨rfl, mode_length_bounds _⟩
theorem EncodeLength.sbcIndX (b : Byte) : EncodeLength.Statement (.sbcIndX b) := ⟨rfl, mode_length_bounds _⟩
theorem EncodeLength.sbcIndY (b : Byte) : EncodeLength.Statement (.sbcIndY b) := ⟨rfl, mode_length_bounds _⟩
theorem EncodeLength.sec : EncodeLength.Statement .sec := ⟨rfl, mode_length_bounds _⟩
theorem EncodeLength.sed : EncodeLength.Statement .sed := ⟨rfl, mode_length_bounds _⟩
theorem EncodeLength.sei : EncodeLength.Statement .sei := ⟨rfl, mode_length_bounds _⟩
theorem EncodeLength.staZp (b : Byte) : EncodeLength.Statement (.staZp b) := ⟨rfl, mode_length_bounds _⟩
theorem EncodeLength.staZpX (b : Byte) : EncodeLength.Statement (.staZpX b) := ⟨rfl, mode_length_bounds _⟩
theorem EncodeLength.staAbs (w : Word) : EncodeLength.Statement (.staAbs w) := ⟨rfl, mode_length_bounds _⟩
theorem EncodeLength.staAbsX (w : Word) : EncodeLength.Statement (.staAbsX w) := ⟨rfl, mode_length_bounds _⟩
theorem EncodeLength.staAbsY (w : Word) : EncodeLength.Statement (.staAbsY w) := ⟨rfl, mode_length_bounds _⟩
theorem EncodeLength.staIndX (b : Byte) : EncodeLength.Statement (.staIndX b) := ⟨rfl, mode_length_bounds _⟩
theorem EncodeLength.staIndY (b : Byte) : EncodeLength.Statement (.staIndY b) := ⟨rfl, mode_length_bounds _⟩
theorem EncodeLength.stxZp (b : Byte) : EncodeLength.Statement (.stxZp b) := ⟨rfl, mode_length_bounds _⟩
theorem EncodeLength.stxZpY (b : Byte) : EncodeLength.Statement (.stxZpY b) := ⟨rfl, mode_length_bounds _⟩
theorem EncodeLength.stxAbs (w : Word) : EncodeLength.Statement (.stxAbs w) := ⟨rfl, mode_length_bounds _⟩
theorem EncodeLength.styZp (b : Byte) : EncodeLength.Statement (.styZp b) := ⟨rfl, mode_length_bounds _⟩
theorem EncodeLength.styZpX (b : Byte) : EncodeLength.Statement (.styZpX b) := ⟨rfl, mode_length_bounds _⟩
theorem EncodeLength.styAbs (w : Word) : EncodeLength.Statement (.styAbs w) := ⟨rfl, mode_length_bounds _⟩
theorem EncodeLength.tax : EncodeLength.Statement .tax := ⟨rfl, mode_length_bounds _⟩
theorem EncodeLength.tay : EncodeLength.Statement .tay := ⟨rfl, mode_length_bounds _⟩
theorem EncodeLength.tsx : EncodeLength.Statement .tsx := ⟨rfl, mode_length_bounds _⟩
theorem EncodeLength.txa : EncodeLength.Statement .txa := ⟨rfl, mode_length_bounds _⟩
theorem EncodeLength.txs : EncodeLength.Statement .txs := ⟨rfl, mode_length_bounds _⟩
theorem EncodeLength.tya : EncodeLength.Statement .tya := ⟨rfl, mode_length_bounds _⟩

end Sys2Proof.Laws
end

