-- ==== Sys2Proof/Machine/Environment.lean ====
section
/-! DEFINITION. Running the machine under an environment: two boolean inputs per step (60_exceptions.md R232, R251), and a run
that ends where the host's `HaltCondition` says (00_scope.md R4). -/

namespace Sys2Proof.Machine

/-- The environment's inputs for one step (10_state.md R24). -/
structure Inputs where
  /-- The IRQ level. -/
  irq : Bool
  /-- An NMI event. -/
  nmi : Bool
  deriving DecidableEq, Repr

/-- One step with the environment's inputs applied before it (60_exceptions.md R232, R251). -/
def stepWith (inp : Inputs) (s : State) : Host.Outcome State Fault Refusal := step (s.withInputs inp.irq inp.nmi)

/-- One step for each of a list of inputs, stopping at the first refusal. -/
def runInputs : List Inputs → State → Host.Outcome State Fault Refusal
  | [], s => .next s
  | inp :: rest, s =>
    match stepWith inp s with
    | .next t => runInputs rest t
    | .fault f => .fault f
    | .refused r => .refused r

/-- At most `fuel` steps without further inputs, ending at the first state the host's condition `halt` holds of
(60_exceptions.md R250, D28; log 20). -/
def runUntil (halt : State → Bool) : Nat → State → Host.Outcome State Fault Refusal
  | 0, s => .next s
  | fuel + 1, s =>
    if halt s then .next s
    else
      match step s with
      | .next t => runUntil halt fuel t
      | .fault f => .fault f
      | .refused r => .refused r

end Sys2Proof.Machine
end

