-- ==== Sys2Proof/Machine/Timing.lean ====
section
/-! DEFINITION. Instruction timing (70_reset_and_hazards.md R272, 30_encoding.md R89): the cycle count of an instruction in a
state. No state depends on it and none holds it (R272, D30; log 18). -/

namespace Sys2Proof.Machine

/-- The mark beside a cycle figure (70_reset_and_hazards.md R272). -/
inductive CycleMark
  /-- No mark. -/
  | none
  /-- One more if a page boundary is crossed. -/
  | pageCross
  /-- One more if the branch is taken to the same page, two more if to another. -/
  | branch
  deriving DecidableEq, Repr

/-- The figure of the "cycles" column (30_encoding.md R75). -/
def baseCycles : Instr → Nat
  | .adcImm _ => 2
  | .adcZp _ => 3
  | .adcZpX _ => 4
  | .adcAbs _ => 4
  | .adcAbsX _ => 4
  | .adcAbsY _ => 4
  | .adcIndX _ => 6
  | .adcIndY _ => 5
  | .andImm _ => 2
  | .andZp _ => 3
  | .andZpX _ => 4
  | .andAbs _ => 4
  | .andAbsX _ => 4
  | .andAbsY _ => 4
  | .andIndX _ => 6
  | .andIndY _ => 5
  | .aslAcc => 2
  | .aslZp _ => 5
  | .aslZpX _ => 6
  | .aslAbs _ => 6
  | .aslAbsX _ => 7
  | .bcc _ => 2
  | .bcs _ => 2
  | .beq _ => 2
  | .bitZp _ => 3
  | .bitAbs _ => 4
  | .bmi _ => 2
  | .bne _ => 2
  | .bpl _ => 2
  | .brk => 7
  | .bvc _ => 2
  | .bvs _ => 2
  | .clc => 2
  | .cld => 2
  | .cli => 2
  | .clv => 2
  | .cmpImm _ => 2
  | .cmpZp _ => 3
  | .cmpZpX _ => 4
  | .cmpAbs _ => 4
  | .cmpAbsX _ => 4
  | .cmpAbsY _ => 4
  | .cmpIndX _ => 6
  | .cmpIndY _ => 5
  | .cpxImm _ => 2
  | .cpxZp _ => 3
  | .cpxAbs _ => 4
  | .cpyImm _ => 2
  | .cpyZp _ => 3
  | .cpyAbs _ => 4
  | .decZp _ => 5
  | .decZpX _ => 6
  | .decAbs _ => 6
  | .decAbsX _ => 7
  | .dex => 2
  | .dey => 2
  | .eorImm _ => 2
  | .eorZp _ => 3
  | .eorZpX _ => 4
  | .eorAbs _ => 4
  | .eorAbsX _ => 4
  | .eorAbsY _ => 4
  | .eorIndX _ => 6
  | .eorIndY _ => 5
  | .incZp _ => 5
  | .incZpX _ => 6
  | .incAbs _ => 6
  | .incAbsX _ => 7
  | .inx => 2
  | .iny => 2
  | .jmpAbs _ => 3
  | .jmpInd _ => 5
  | .jsr _ => 6
  | .ldaImm _ => 2
  | .ldaZp _ => 3
  | .ldaZpX _ => 4
  | .ldaAbs _ => 4
  | .ldaAbsX _ => 4
  | .ldaAbsY _ => 4
  | .ldaIndX _ => 6
  | .ldaIndY _ => 5
  | .ldxImm _ => 2
  | .ldxZp _ => 3
  | .ldxZpY _ => 4
  | .ldxAbs _ => 4
  | .ldxAbsY _ => 4
  | .ldyImm _ => 2
  | .ldyZp _ => 3
  | .ldyZpX _ => 4
  | .ldyAbs _ => 4
  | .ldyAbsX _ => 4
  | .lsrAcc => 2
  | .lsrZp _ => 5
  | .lsrZpX _ => 6
  | .lsrAbs _ => 6
  | .lsrAbsX _ => 7
  | .nop => 2
  | .oraImm _ => 2
  | .oraZp _ => 3
  | .oraZpX _ => 4
  | .oraAbs _ => 4
  | .oraAbsX _ => 4
  | .oraAbsY _ => 4
  | .oraIndX _ => 6
  | .oraIndY _ => 5
  | .pha => 3
  | .php => 3
  | .pla => 4
  | .plp => 4
  | .rolAcc => 2
  | .rolZp _ => 5
  | .rolZpX _ => 6
  | .rolAbs _ => 6
  | .rolAbsX _ => 7
  | .rorAcc => 2
  | .rorZp _ => 5
  | .rorZpX _ => 6
  | .rorAbs _ => 6
  | .rorAbsX _ => 7
  | .rti => 6
  | .rts => 6
  | .sbcImm _ => 2
  | .sbcZp _ => 3
  | .sbcZpX _ => 4
  | .sbcAbs _ => 4
  | .sbcAbsX _ => 4
  | .sbcAbsY _ => 4
  | .sbcIndX _ => 6
  | .sbcIndY _ => 5
  | .sec => 2
  | .sed => 2
  | .sei => 2
  | .staZp _ => 3
  | .staZpX _ => 4
  | .staAbs _ => 4
  | .staAbsX _ => 5
  | .staAbsY _ => 5
  | .staIndX _ => 6
  | .staIndY _ => 6
  | .stxZp _ => 3
  | .stxZpY _ => 4
  | .stxAbs _ => 4
  | .styZp _ => 3
  | .styZpX _ => 4
  | .styAbs _ => 4
  | .tax => 2
  | .tay => 2
  | .tsx => 2
  | .txa => 2
  | .txs => 2
  | .tya => 2

/-- The mark of the "cycles" column (30_encoding.md R75). -/
def cycleMark : Instr → CycleMark
  | .adcImm _ => .none
  | .adcZp _ => .none
  | .adcZpX _ => .none
  | .adcAbs _ => .none
  | .adcAbsX _ => .pageCross
  | .adcAbsY _ => .pageCross
  | .adcIndX _ => .none
  | .adcIndY _ => .pageCross
  | .andImm _ => .none
  | .andZp _ => .none
  | .andZpX _ => .none
  | .andAbs _ => .none
  | .andAbsX _ => .pageCross
  | .andAbsY _ => .pageCross
  | .andIndX _ => .none
  | .andIndY _ => .pageCross
  | .aslAcc => .none
  | .aslZp _ => .none
  | .aslZpX _ => .none
  | .aslAbs _ => .none
  | .aslAbsX _ => .none
  | .bcc _ => .branch
  | .bcs _ => .branch
  | .beq _ => .branch
  | .bitZp _ => .none
  | .bitAbs _ => .none
  | .bmi _ => .branch
  | .bne _ => .branch
  | .bpl _ => .branch
  | .brk => .none
  | .bvc _ => .branch
  | .bvs _ => .branch
  | .clc => .none
  | .cld => .none
  | .cli => .none
  | .clv => .none
  | .cmpImm _ => .none
  | .cmpZp _ => .none
  | .cmpZpX _ => .none
  | .cmpAbs _ => .none
  | .cmpAbsX _ => .pageCross
  | .cmpAbsY _ => .pageCross
  | .cmpIndX _ => .none
  | .cmpIndY _ => .pageCross
  | .cpxImm _ => .none
  | .cpxZp _ => .none
  | .cpxAbs _ => .none
  | .cpyImm _ => .none
  | .cpyZp _ => .none
  | .cpyAbs _ => .none
  | .decZp _ => .none
  | .decZpX _ => .none
  | .decAbs _ => .none
  | .decAbsX _ => .none
  | .dex => .none
  | .dey => .none
  | .eorImm _ => .none
  | .eorZp _ => .none
  | .eorZpX _ => .none
  | .eorAbs _ => .none
  | .eorAbsX _ => .pageCross
  | .eorAbsY _ => .pageCross
  | .eorIndX _ => .none
  | .eorIndY _ => .pageCross
  | .incZp _ => .none
  | .incZpX _ => .none
  | .incAbs _ => .none
  | .incAbsX _ => .none
  | .inx => .none
  | .iny => .none
  | .jmpAbs _ => .none
  | .jmpInd _ => .none
  | .jsr _ => .none
  | .ldaImm _ => .none
  | .ldaZp _ => .none
  | .ldaZpX _ => .none
  | .ldaAbs _ => .none
  | .ldaAbsX _ => .pageCross
  | .ldaAbsY _ => .pageCross
  | .ldaIndX _ => .none
  | .ldaIndY _ => .pageCross
  | .ldxImm _ => .none
  | .ldxZp _ => .none
  | .ldxZpY _ => .none
  | .ldxAbs _ => .none
  | .ldxAbsY _ => .pageCross
  | .ldyImm _ => .none
  | .ldyZp _ => .none
  | .ldyZpX _ => .none
  | .ldyAbs _ => .none
  | .ldyAbsX _ => .pageCross
  | .lsrAcc => .none
  | .lsrZp _ => .none
  | .lsrZpX _ => .none
  | .lsrAbs _ => .none
  | .lsrAbsX _ => .none
  | .nop => .none
  | .oraImm _ => .none
  | .oraZp _ => .none
  | .oraZpX _ => .none
  | .oraAbs _ => .none
  | .oraAbsX _ => .pageCross
  | .oraAbsY _ => .pageCross
  | .oraIndX _ => .none
  | .oraIndY _ => .pageCross
  | .pha => .none
  | .php => .none
  | .pla => .none
  | .plp => .none
  | .rolAcc => .none
  | .rolZp _ => .none
  | .rolZpX _ => .none
  | .rolAbs _ => .none
  | .rolAbsX _ => .none
  | .rorAcc => .none
  | .rorZp _ => .none
  | .rorZpX _ => .none
  | .rorAbs _ => .none
  | .rorAbsX _ => .none
  | .rti => .none
  | .rts => .none
  | .sbcImm _ => .none
  | .sbcZp _ => .none
  | .sbcZpX _ => .none
  | .sbcAbs _ => .none
  | .sbcAbsX _ => .pageCross
  | .sbcAbsY _ => .pageCross
  | .sbcIndX _ => .none
  | .sbcIndY _ => .pageCross
  | .sec => .none
  | .sed => .none
  | .sei => .none
  | .staZp _ => .none
  | .staZpX _ => .none
  | .staAbs _ => .none
  | .staAbsX _ => .none
  | .staAbsY _ => .none
  | .staIndX _ => .none
  | .staIndY _ => .none
  | .stxZp _ => .none
  | .stxZpY _ => .none
  | .stxAbs _ => .none
  | .styZp _ => .none
  | .styZpX _ => .none
  | .styAbs _ => .none
  | .tax => .none
  | .tay => .none
  | .tsx => .none
  | .txa => .none
  | .txs => .none
  | .tya => .none

/-- The address an indexed mode adds its register to (30_encoding.md R87, R88, R92). -/
def State.baseAddress (o : Operand) (s : State) : Option Word :=
  match o with
  | .absoluteX w => some w
  | .absoluteY w => some w
  | .indirectY b => some (s.zeroPagePointer b)
  | _ => none

/-- A page boundary is crossed: the effective address and its base differ in the high byte (30_encoding.md R89). -/
def State.pageCrossed (o : Operand) (s : State) : Bool :=
  match s.baseAddress o, s.effectiveAddress o with
  | some base, some ea => decide (highByte ea ≠ highByte base)
  | _, _ => false

/-- Whether the branch `m` is taken (48_branch_jump.md R201 to R208); no other instruction is a branch. -/
def State.branchTaken (m : Mnemonic) (s : State) : Bool :=
  match m with
  | .bcc => !s.c
  | .bcs => s.c
  | .beq => s.z
  | .bmi => s.n
  | .bne => !s.z
  | .bpl => !s.n
  | .bvc => !s.v
  | .bvs => s.v
  | _ => false

/-- What a mark adds to the figure; a branch is measured against the instruction after it (70_reset_and_hazards.md R272,
90_conflicts.md C10). -/
def extraCycles (i : Instr) (s : State) : Nat :=
  match cycleMark i with
  | .none => 0
  | .pageCross => if s.pageCrossed i.operand then 1 else 0
  | .branch =>
    if s.branchTaken i.mnemonic then
      match s.effectiveAddress i.operand with
      | some target => if highByte target = highByte (s.pc + 2) then 1 else 2
      | Option.none => 0
    else 0

/-- The cycles instruction `i` takes in state `s` (70_reset_and_hazards.md R272). -/
def cycles (i : Instr) (s : State) : Nat := baseCycles i + extraCycles i s

end Sys2Proof.Machine
end

