-- ==== Sys2Proof/Safety.lean ====
section
/-! DEFINITION. What counts as a safe step and a safe run, and the terms the claims are written in: when no interrupt is
taken, which addresses take a write, what an instruction may write, and which opcodes the table does not list. -/

namespace Sys2Proof.Machine

/-- A step that goes on. -/
def SafeStep (s : State) : Prop := ∃ t, step s = .next t

/-- A run under the given inputs that goes on to its end. -/
def SafeRun (inputs : List Inputs) (s : State) : Prop := ∃ t, runInputs inputs s = .next t

/-- No interrupt is taken at this step: no NMI is pending, and an IRQ is not asserted or is masked (60_exceptions.md R232). -/
def NoInterrupt (s : State) : Prop := s.nmiPending = false ∧ (s.irqAsserted = false ∨ s.i = true)

/-- Address `a` is RAM: a write to it sticks (20_memory.md R51). -/
abbrev State.isRam (s : State) (a : Word) : Prop := s.cfg.kindAt a.toNat = .ram

/-- The invariant of the machine: memory is in its canonical form. -/
def State.Inv (s : State) : Prop := s.mem.wf = true

/-- From `s` to `t` the byte `v` was written at `ea` and no other byte of memory changed; where `ea` is not RAM the write had no
effect (20_memory.md R51). -/
def WroteByte (ea : Word) (v : Byte) (s t : State) : Prop :=
  (∀ a, a ≠ ea → t.readByte a = s.readByte a) ∧
  (s.isRam ea → t.readByte ea = v) ∧ (¬ s.isRam ea → t.readByte ea = s.readByte ea)

/-- Every byte of memory reads in `t` as in `s`, but for the addresses of `as`. -/
def MemorySameBut (as : List Word) (s t : State) : Prop := ∀ a, a ∉ as → t.readByte a = s.readByte a

/-- The address an operand's byte is at in memory, as a list: empty where the mode forms no address. -/
def State.operandAddress (o : Operand) (s : State) : List Word := (s.effectiveAddress o).toList

/-- The forms of a mnemonic: the instructions that bear it are exactly those of the listed modes, with the listed opcodes
(30_encoding.md R75). -/
def HasForms (m : Mnemonic) (forms : List (Mode × Byte)) : Prop :=
  ∀ mode op, (mode, op) ∈ forms ↔ ∃ i : Instr, i.mnemonic = m ∧ i.operand.mode = mode ∧ i.opcode = op

/-- The state after handler entry with return address `ret`, through `vector`, with break flag `b`: three bytes pushed, I set,
PC from the vector, everything else as before (60_exceptions.md R235, 20_memory.md R49). -/
def HandlerEntered (ret vector : Word) (b : Bool) (s t : State) : Prop :=
  { t with mem := s.mem } = { s with sp := s.sp - 3, i := true, pc := t.read16 vector } ∧
  MemorySameBut [stackAddress s.sp, stackAddress (s.sp - 1), stackAddress (s.sp - 2)] s t ∧
  (s.isRam (stackAddress s.sp) → t.readByte (stackAddress s.sp) = highByte ret) ∧
  (s.isRam (stackAddress (s.sp - 1)) → t.readByte (stackAddress (s.sp - 1)) = lowByte ret) ∧
  (s.isRam (stackAddress (s.sp - 2)) → t.readByte (stackAddress (s.sp - 2)) = s.srByte b)

/-- A read-modify-write instruction ran with result byte `r` and carry `c`: the result went to A where the operand forms no
address, else to the byte at its effective address; N and Z are those of the result (30_encoding.md R94). -/
def StoredBack (i : Instr) (s : State) (r : Byte) (c : Bool) : Prop :=
  (s.effectiveAddress i.operand = none →
    exec i s = .next { s with
      a := r, n := r.getLsbD 7, z := decide (r = 0), c := c, pc := s.pc + BitVec.ofNat 16 i.length }) ∧
  (∀ ea, s.effectiveAddress i.operand = some ea →
    ∃ t, exec i s = .next t ∧
      { t with mem := s.mem } = { s with
        n := r.getLsbD 7, z := decide (r = 0), c := c, pc := s.pc + BitVec.ofNat 16 i.length } ∧
      WroteByte ea r s t)

/-- The six flags (10_state.md R17). -/
inductive Flag
  | n | v | d | i | z | c
  deriving DecidableEq, Repr

/-- The value of a flag. -/
def State.flag (f : Flag) (s : State) : Bool :=
  match f with
  | .n => s.n
  | .v => s.v
  | .d => s.d
  | .i => s.i
  | .z => s.z
  | .c => s.c

/-- The mnemonics that write a result's N and Z (10_state.md R21). -/
def resultWriters : List Mnemonic :=
  [.adc, .and, .asl, .cmp, .cpx, .cpy, .dec, .dex, .dey, .eor, .inc, .inx, .iny, .lda, .ldx, .ldy, .lsr, .ora, .pla, .rol,
    .ror, .sbc, .tax, .tay, .tsx, .txa, .tya, .bit, .plp, .rti]

/-- The "written by" column of the flag table, instruction by instruction (10_state.md R21). -/
def flagWriters : Flag → List Mnemonic
  | .n => resultWriters
  | .v => [.adc, .sbc, .bit, .clv, .plp, .rti]
  | .d => [.sed, .cld, .plp, .rti]
  | .i => [.sei, .cli, .brk, .plp, .rti]
  | .z => resultWriters
  | .c => [.adc, .sbc, .cmp, .cpx, .cpy, .asl, .lsr, .rol, .ror, .sec, .clc, .plp, .rti]

/-- The instructions that write A (10_state.md R10): ASL, LSR, ROL and ROR in accumulator mode only. -/
def writesA (i : Instr) : Bool :=
  decide (i.mnemonic ∈ [Mnemonic.adc, .and, .eor, .lda, .ora, .pla, .sbc, .txa, .tya]) ||
  decide (i.operand = .accumulator)

/-- The mnemonics that write X (10_state.md R11). -/
def xWriters : List Mnemonic := [.dex, .inx, .ldx, .tax, .tsx]

/-- The mnemonics that write Y (10_state.md R11). -/
def yWriters : List Mnemonic := [.dey, .iny, .ldy, .tay]

/-- The mnemonics that write SP (10_state.md R12). -/
def spWriters : List Mnemonic := [.txs, .pha, .php, .pla, .plp, .jsr, .rts, .brk, .rti]

/-- The addresses an instruction stores to (10_state.md R26): the effective address for the stores and the read-modify-write
instructions, the stack bytes for the pushes, JSR and BRK, none for any other. -/
def State.storedAddresses (i : Instr) (s : State) : List Word :=
  match i.mnemonic with
  | .sta => s.operandAddress i.operand
  | .stx => s.operandAddress i.operand
  | .sty => s.operandAddress i.operand
  | .inc => s.operandAddress i.operand
  | .dec => s.operandAddress i.operand
  | .asl => s.operandAddress i.operand
  | .lsr => s.operandAddress i.operand
  | .rol => s.operandAddress i.operand
  | .ror => s.operandAddress i.operand
  | .pha => [stackAddress s.sp]
  | .php => [stackAddress s.sp]
  | .jsr => [stackAddress s.sp, stackAddress (s.sp - 1)]
  | .brk => [stackAddress s.sp, stackAddress (s.sp - 1), stackAddress (s.sp - 2)]
  | _ => []

/-- The 105 opcode bytes the table does not list, as the spec lists them by high digit (30_encoding.md R77). -/
def unlistedOpcodes : List Byte :=
  [0x02, 0x03, 0x04, 0x07, 0x0B, 0x0C, 0x0F] ++
  [0x12, 0x13, 0x14, 0x17, 0x1A, 0x1B, 0x1C, 0x1F] ++
  [0x22, 0x23, 0x27, 0x2B, 0x2F] ++
  [0x32, 0x33, 0x34, 0x37, 0x3A, 0x3B, 0x3C, 0x3F] ++
  [0x42, 0x43, 0x44, 0x47, 0x4B, 0x4F] ++
  [0x52, 0x53, 0x54, 0x57, 0x5A, 0x5B, 0x5C, 0x5F] ++
  [0x62, 0x63, 0x64, 0x67, 0x6B, 0x6F] ++
  [0x72, 0x73, 0x74, 0x77, 0x7A, 0x7B, 0x7C, 0x7F] ++
  [0x80, 0x82, 0x83, 0x87, 0x89, 0x8B, 0x8F] ++
  [0x92, 0x93, 0x97, 0x9B, 0x9C, 0x9E, 0x9F] ++
  [0xA3, 0xA7, 0xAB, 0xAF] ++
  [0xB2, 0xB3, 0xB7, 0xBB, 0xBF] ++
  [0xC2, 0xC3, 0xC7, 0xCB, 0xCF] ++
  [0xD2, 0xD3, 0xD4, 0xD7, 0xDA, 0xDB, 0xDC, 0xDF] ++
  [0xE2, 0xE3, 0xE7, 0xEB, 0xEF] ++
  [0xF2, 0xF3, 0xF4, 0xF7, 0xFA, 0xFB, 0xFC, 0xFF]

/-- One row of the opcode table (30_encoding.md R75): addressing mode, assembler form, opcode byte, length in bytes, cycle figure,
cycle mark. -/
structure TableRow where
  mode : Mode
  assembler : String
  opcode : Byte
  bytes : Nat
  cycles : Nat
  mark : CycleMark
  deriving DecidableEq, Repr

/-- The rows of the opcode table, transcribed, by mnemonic (30_encoding.md R75). -/
def specRows : Mnemonic → List TableRow
  | .adc => [⟨.immediate, "ADC #oper", 0x69, 2, 2, .none⟩, ⟨.zeropage, "ADC oper", 0x65, 2, 3, .none⟩,
      ⟨.zeropageX, "ADC oper,X", 0x75, 2, 4, .none⟩, ⟨.absolute, "ADC oper", 0x6D, 3, 4, .none⟩,
      ⟨.absoluteX, "ADC oper,X", 0x7D, 3, 4, .pageCross⟩, ⟨.absoluteY, "ADC oper,Y", 0x79, 3, 4, .pageCross⟩,
      ⟨.indirectX, "ADC (oper,X)", 0x61, 2, 6, .none⟩, ⟨.indirectY, "ADC (oper),Y", 0x71, 2, 5, .pageCross⟩]
  | .and => [⟨.immediate, "AND #oper", 0x29, 2, 2, .none⟩, ⟨.zeropage, "AND oper", 0x25, 2, 3, .none⟩,
      ⟨.zeropageX, "AND oper,X", 0x35, 2, 4, .none⟩, ⟨.absolute, "AND oper", 0x2D, 3, 4, .none⟩,
      ⟨.absoluteX, "AND oper,X", 0x3D, 3, 4, .pageCross⟩, ⟨.absoluteY, "AND oper,Y", 0x39, 3, 4, .pageCross⟩,
      ⟨.indirectX, "AND (oper,X)", 0x21, 2, 6, .none⟩, ⟨.indirectY, "AND (oper),Y", 0x31, 2, 5, .pageCross⟩]
  | .asl => [⟨.accumulator, "ASL A", 0x0A, 1, 2, .none⟩, ⟨.zeropage, "ASL oper", 0x06, 2, 5, .none⟩,
      ⟨.zeropageX, "ASL oper,X", 0x16, 2, 6, .none⟩, ⟨.absolute, "ASL oper", 0x0E, 3, 6, .none⟩,
      ⟨.absoluteX, "ASL oper,X", 0x1E, 3, 7, .none⟩]
  | .bcc => [⟨.relative, "BCC oper", 0x90, 2, 2, .branch⟩]
  | .bcs => [⟨.relative, "BCS oper", 0xB0, 2, 2, .branch⟩]
  | .beq => [⟨.relative, "BEQ oper", 0xF0, 2, 2, .branch⟩]
  | .bit => [⟨.zeropage, "BIT oper", 0x24, 2, 3, .none⟩, ⟨.absolute, "BIT oper", 0x2C, 3, 4, .none⟩]
  | .bmi => [⟨.relative, "BMI oper", 0x30, 2, 2, .branch⟩]
  | .bne => [⟨.relative, "BNE oper", 0xD0, 2, 2, .branch⟩]
  | .bpl => [⟨.relative, "BPL oper", 0x10, 2, 2, .branch⟩]
  | .brk => [⟨.implied, "BRK", 0x00, 1, 7, .none⟩]
  | .bvc => [⟨.relative, "BVC oper", 0x50, 2, 2, .branch⟩]
  | .bvs => [⟨.relative, "BVS oper", 0x70, 2, 2, .branch⟩]
  | .clc => [⟨.implied, "CLC", 0x18, 1, 2, .none⟩]
  | .cld => [⟨.implied, "CLD", 0xD8, 1, 2, .none⟩]
  | .cli => [⟨.implied, "CLI", 0x58, 1, 2, .none⟩]
  | .clv => [⟨.implied, "CLV", 0xB8, 1, 2, .none⟩]
  | .cmp => [⟨.immediate, "CMP #oper", 0xC9, 2, 2, .none⟩, ⟨.zeropage, "CMP oper", 0xC5, 2, 3, .none⟩,
      ⟨.zeropageX, "CMP oper,X", 0xD5, 2, 4, .none⟩, ⟨.absolute, "CMP oper", 0xCD, 3, 4, .none⟩,
      ⟨.absoluteX, "CMP oper,X", 0xDD, 3, 4, .pageCross⟩, ⟨.absoluteY, "CMP oper,Y", 0xD9, 3, 4, .pageCross⟩,
      ⟨.indirectX, "CMP (oper,X)", 0xC1, 2, 6, .none⟩, ⟨.indirectY, "CMP (oper),Y", 0xD1, 2, 5, .pageCross⟩]
  | .cpx => [⟨.immediate, "CPX #oper", 0xE0, 2, 2, .none⟩, ⟨.zeropage, "CPX oper", 0xE4, 2, 3, .none⟩,
      ⟨.absolute, "CPX oper", 0xEC, 3, 4, .none⟩]
  | .cpy => [⟨.immediate, "CPY #oper", 0xC0, 2, 2, .none⟩, ⟨.zeropage, "CPY oper", 0xC4, 2, 3, .none⟩,
      ⟨.absolute, "CPY oper", 0xCC, 3, 4, .none⟩]
  | .dec => [⟨.zeropage, "DEC oper", 0xC6, 2, 5, .none⟩, ⟨.zeropageX, "DEC oper,X", 0xD6, 2, 6, .none⟩,
      ⟨.absolute, "DEC oper", 0xCE, 3, 6, .none⟩, ⟨.absoluteX, "DEC oper,X", 0xDE, 3, 7, .none⟩]
  | .dex => [⟨.implied, "DEX", 0xCA, 1, 2, .none⟩]
  | .dey => [⟨.implied, "DEY", 0x88, 1, 2, .none⟩]
  | .eor => [⟨.immediate, "EOR #oper", 0x49, 2, 2, .none⟩, ⟨.zeropage, "EOR oper", 0x45, 2, 3, .none⟩,
      ⟨.zeropageX, "EOR oper,X", 0x55, 2, 4, .none⟩, ⟨.absolute, "EOR oper", 0x4D, 3, 4, .none⟩,
      ⟨.absoluteX, "EOR oper,X", 0x5D, 3, 4, .pageCross⟩, ⟨.absoluteY, "EOR oper,Y", 0x59, 3, 4, .pageCross⟩,
      ⟨.indirectX, "EOR (oper,X)", 0x41, 2, 6, .none⟩, ⟨.indirectY, "EOR (oper),Y", 0x51, 2, 5, .pageCross⟩]
  | .inc => [⟨.zeropage, "INC oper", 0xE6, 2, 5, .none⟩, ⟨.zeropageX, "INC oper,X", 0xF6, 2, 6, .none⟩,
      ⟨.absolute, "INC oper", 0xEE, 3, 6, .none⟩, ⟨.absoluteX, "INC oper,X", 0xFE, 3, 7, .none⟩]
  | .inx => [⟨.implied, "INX", 0xE8, 1, 2, .none⟩]
  | .iny => [⟨.implied, "INY", 0xC8, 1, 2, .none⟩]
  | .jmp => [⟨.absolute, "JMP oper", 0x4C, 3, 3, .none⟩, ⟨.indirect, "JMP (oper)", 0x6C, 3, 5, .none⟩]
  | .jsr => [⟨.absolute, "JSR oper", 0x20, 3, 6, .none⟩]
  | .lda => [⟨.immediate, "LDA #oper", 0xA9, 2, 2, .none⟩, ⟨.zeropage, "LDA oper", 0xA5, 2, 3, .none⟩,
      ⟨.zeropageX, "LDA oper,X", 0xB5, 2, 4, .none⟩, ⟨.absolute, "LDA oper", 0xAD, 3, 4, .none⟩,
      ⟨.absoluteX, "LDA oper,X", 0xBD, 3, 4, .pageCross⟩, ⟨.absoluteY, "LDA oper,Y", 0xB9, 3, 4, .pageCross⟩,
      ⟨.indirectX, "LDA (oper,X)", 0xA1, 2, 6, .none⟩, ⟨.indirectY, "LDA (oper),Y", 0xB1, 2, 5, .pageCross⟩]
  | .ldx => [⟨.immediate, "LDX #oper", 0xA2, 2, 2, .none⟩, ⟨.zeropage, "LDX oper", 0xA6, 2, 3, .none⟩,
      ⟨.zeropageY, "LDX oper,Y", 0xB6, 2, 4, .none⟩, ⟨.absolute, "LDX oper", 0xAE, 3, 4, .none⟩,
      ⟨.absoluteY, "LDX oper,Y", 0xBE, 3, 4, .pageCross⟩]
  | .ldy => [⟨.immediate, "LDY #oper", 0xA0, 2, 2, .none⟩, ⟨.zeropage, "LDY oper", 0xA4, 2, 3, .none⟩,
      ⟨.zeropageX, "LDY oper,X", 0xB4, 2, 4, .none⟩, ⟨.absolute, "LDY oper", 0xAC, 3, 4, .none⟩,
      ⟨.absoluteX, "LDY oper,X", 0xBC, 3, 4, .pageCross⟩]
  | .lsr => [⟨.accumulator, "LSR A", 0x4A, 1, 2, .none⟩, ⟨.zeropage, "LSR oper", 0x46, 2, 5, .none⟩,
      ⟨.zeropageX, "LSR oper,X", 0x56, 2, 6, .none⟩, ⟨.absolute, "LSR oper", 0x4E, 3, 6, .none⟩,
      ⟨.absoluteX, "LSR oper,X", 0x5E, 3, 7, .none⟩]
  | .nop => [⟨.implied, "NOP", 0xEA, 1, 2, .none⟩]
  | .ora => [⟨.immediate, "ORA #oper", 0x09, 2, 2, .none⟩, ⟨.zeropage, "ORA oper", 0x05, 2, 3, .none⟩,
      ⟨.zeropageX, "ORA oper,X", 0x15, 2, 4, .none⟩, ⟨.absolute, "ORA oper", 0x0D, 3, 4, .none⟩,
      ⟨.absoluteX, "ORA oper,X", 0x1D, 3, 4, .pageCross⟩, ⟨.absoluteY, "ORA oper,Y", 0x19, 3, 4, .pageCross⟩,
      ⟨.indirectX, "ORA (oper,X)", 0x01, 2, 6, .none⟩, ⟨.indirectY, "ORA (oper),Y", 0x11, 2, 5, .pageCross⟩]
  | .pha => [⟨.implied, "PHA", 0x48, 1, 3, .none⟩]
  | .php => [⟨.implied, "PHP", 0x08, 1, 3, .none⟩]
  | .pla => [⟨.implied, "PLA", 0x68, 1, 4, .none⟩]
  | .plp => [⟨.implied, "PLP", 0x28, 1, 4, .none⟩]
  | .rol => [⟨.accumulator, "ROL A", 0x2A, 1, 2, .none⟩, ⟨.zeropage, "ROL oper", 0x26, 2, 5, .none⟩,
      ⟨.zeropageX, "ROL oper,X", 0x36, 2, 6, .none⟩, ⟨.absolute, "ROL oper", 0x2E, 3, 6, .none⟩,
      ⟨.absoluteX, "ROL oper,X", 0x3E, 3, 7, .none⟩]
  | .ror => [⟨.accumulator, "ROR A", 0x6A, 1, 2, .none⟩, ⟨.zeropage, "ROR oper", 0x66, 2, 5, .none⟩,
      ⟨.zeropageX, "ROR oper,X", 0x76, 2, 6, .none⟩, ⟨.absolute, "ROR oper", 0x6E, 3, 6, .none⟩,
      ⟨.absoluteX, "ROR oper,X", 0x7E, 3, 7, .none⟩]
  | .rti => [⟨.implied, "RTI", 0x40, 1, 6, .none⟩]
  | .rts => [⟨.implied, "RTS", 0x60, 1, 6, .none⟩]
  | .sbc => [⟨.immediate, "SBC #oper", 0xE9, 2, 2, .none⟩, ⟨.zeropage, "SBC oper", 0xE5, 2, 3, .none⟩,
      ⟨.zeropageX, "SBC oper,X", 0xF5, 2, 4, .none⟩, ⟨.absolute, "SBC oper", 0xED, 3, 4, .none⟩,
      ⟨.absoluteX, "SBC oper,X", 0xFD, 3, 4, .pageCross⟩, ⟨.absoluteY, "SBC oper,Y", 0xF9, 3, 4, .pageCross⟩,
      ⟨.indirectX, "SBC (oper,X)", 0xE1, 2, 6, .none⟩, ⟨.indirectY, "SBC (oper),Y", 0xF1, 2, 5, .pageCross⟩]
  | .sec => [⟨.implied, "SEC", 0x38, 1, 2, .none⟩]
  | .sed => [⟨.implied, "SED", 0xF8, 1, 2, .none⟩]
  | .sei => [⟨.implied, "SEI", 0x78, 1, 2, .none⟩]
  | .sta => [⟨.zeropage, "STA oper", 0x85, 2, 3, .none⟩, ⟨.zeropageX, "STA oper,X", 0x95, 2, 4, .none⟩,
      ⟨.absolute, "STA oper", 0x8D, 3, 4, .none⟩, ⟨.absoluteX, "STA oper,X", 0x9D, 3, 5, .none⟩,
      ⟨.absoluteY, "STA oper,Y", 0x99, 3, 5, .none⟩, ⟨.indirectX, "STA (oper,X)", 0x81, 2, 6, .none⟩,
      ⟨.indirectY, "STA (oper),Y", 0x91, 2, 6, .none⟩]
  | .stx => [⟨.zeropage, "STX oper", 0x86, 2, 3, .none⟩, ⟨.zeropageY, "STX oper,Y", 0x96, 2, 4, .none⟩,
      ⟨.absolute, "STX oper", 0x8E, 3, 4, .none⟩]
  | .sty => [⟨.zeropage, "STY oper", 0x84, 2, 3, .none⟩, ⟨.zeropageX, "STY oper,X", 0x94, 2, 4, .none⟩,
      ⟨.absolute, "STY oper", 0x8C, 3, 4, .none⟩]
  | .tax => [⟨.implied, "TAX", 0xAA, 1, 2, .none⟩]
  | .tay => [⟨.implied, "TAY", 0xA8, 1, 2, .none⟩]
  | .tsx => [⟨.implied, "TSX", 0xBA, 1, 2, .none⟩]
  | .txa => [⟨.implied, "TXA", 0x8A, 1, 2, .none⟩]
  | .txs => [⟨.implied, "TXS", 0x9A, 1, 2, .none⟩]
  | .tya => [⟨.implied, "TYA", 0x98, 1, 2, .none⟩]

/-- The 56 mnemonics, in the table's order (30_encoding.md R75, R76). -/
def allMnemonics : List Mnemonic :=
  [.adc, .and, .asl, .bcc, .bcs, .beq, .bit, .bmi, .bne, .bpl, .brk, .bvc, .bvs, .clc, .cld, .cli, .clv, .cmp, .cpx,
    .cpy, .dec, .dex, .dey, .eor, .inc, .inx, .iny, .jmp, .jsr, .lda, .ldx, .ldy, .lsr, .nop, .ora, .pha, .php, .pla,
    .plp, .rol, .ror, .rti, .rts, .sbc, .sec, .sed, .sei, .sta, .stx, .sty, .tax, .tay, .tsx, .txa, .txs, .tya]

/-- The whole opcode table (30_encoding.md R75). -/
def specOpcodeTable : List TableRow := allMnemonics.flatMap specRows

/-- The row an instruction of the model has: its mode, assembler form and opcode, the bytes of its encoding, its
cycle figure and mark. -/
def rowOf (i : Instr) : TableRow where
  mode := i.operand.mode
  assembler := i.assembler
  opcode := i.opcode
  bytes := (encode i).length
  cycles := baseCycles i
  mark := cycleMark i

end Sys2Proof.Machine
end

