-- ==== Sys2Proof/Certificates/Slice0/Obligations.lean ====
section
/-! DEFINITION. The statements about the machine, from the numbered rules of spec/. Memory is read through
`State.readByte`; `HasForms` names the forms and opcodes of a mnemonic; a statement over every state is a statement over every
configuration, since the configuration is part of the state (log 8). -/

open Sys2Proof Sys2Proof.Machine

/-! ### Encoding -/

/-- Decoding the bytes of an instruction, with any bytes after them, gives that instruction and those bytes
(30_encoding.md R70, R71, R72, R75). -/
def Obligations.DecodingAnEncodedInstructionGivesItBack : Prop :=
  ∀ (i : Instr) (rest : List Byte), i.WellFormed ∧ decode (encode i ++ rest) = .ok i rest

/-- Bytes that decode are the encoding of the instruction they decode to, followed by the bytes left over: no two encodings
share an instruction and no bit of one is dropped (30_encoding.md R70, R71, R72). -/
def Obligations.DecodedBytesAreTheInstructionsEncoding : Prop :=
  ∀ (bytes : List Byte) (i : Instr) (rest : List Byte), decode bytes = .ok i rest → bytes = encode i ++ rest

/-- The instructions are exactly the 151 rows of the table, under 56 mnemonics: every instruction has its row under its mnemonic,
every row has an instruction, and no opcode stands in two rows (30_encoding.md R75). -/
def Obligations.InstructionsAreTheRowsOfTheOpcodeTable : Prop :=
  allMnemonics.length = 56 ∧ (∀ m : Mnemonic, m ∈ allMnemonics) ∧
  specOpcodeTable.length = 151 ∧ (specOpcodeTable.map TableRow.opcode).Nodup ∧
  (∀ i : Instr, rowOf i ∈ specRows i.mnemonic) ∧
  (∀ m : Mnemonic, ∀ row ∈ specRows m, ∃ i : Instr, i.mnemonic = m ∧ rowOf i = row)

/-- A mnemonic and an operand pass the well-formedness check exactly when some instruction is that mnemonic with that operand
(30_encoding.md R75, R80). -/
def Obligations.WellFormedPairsAreTheInstructions : Prop :=
  ∀ (m : Mnemonic) (o : Operand), wellFormedPair m o = true ↔ ∃ i : Instr, i.mnemonic = m ∧ i.operand = o

/-- A few instructions written out byte by byte from the table decode to what they stand for (30_encoding.md R71, R75). -/
def Obligations.BytesWrittenFromTheTableDecode : Prop :=
  decode [0xA9, 0x80] = .ok (.ldaImm 0x80) [] ∧ decode [0x48] = .ok .pha [] ∧
  decode [0xFE, 0x34, 0x12] = .ok (.incAbsX 0x1234) [] ∧ decode [0x71, 0x40, 0xEA] = .ok (.adcIndY 0x40) [0xEA] ∧
  decode [0x3D, 0x34, 0x12] = .ok (.andAbsX 0x1234) [] ∧ decode [0x6A] = .ok .rorAcc [] ∧
  decode [0xD8] = .ok .cld [] ∧ decode [0xC1, 0xFE] = .ok (.cmpIndX 0xFE) [] ∧
  decode [0x6C, 0xFF, 0x30] = .ok (.jmpInd 0x30FF) [] ∧ decode [0x2C, 0x34, 0x12] = .ok (.bitAbs 0x1234) [] ∧
  decode [0x02, 0x00, 0x00] = .error (.unlistedOpcode 0x02) ∧ decode [0x4C, 0x00] = .error (.missingOperand 0x4C)

/-- The 105 byte values the table does not list are exactly the opcodes the decoder rejects, and a step that would execute one
is refused by name (30_encoding.md R77). -/
def Obligations.UnlistedOpcodesAreRefused : Prop :=
  unlistedOpcodes.length = 105 ∧ unlistedOpcodes.Nodup ∧
  (∀ op b1 b2 : Byte, op ∈ unlistedOpcodes ↔ decodeOpcode op b1 b2 = none) ∧
  (∀ s : State, NoInterrupt s → s.fetchByte 0 ∈ unlistedOpcodes →
    step s = .refused (.unlistedOpcode (s.fetchByte 0)))

/-- An instruction of the table placed at PC from outside is what the next step runs, whatever the state was (log 10;
60_exceptions.md R232, 70_reset_and_hazards.md R264). -/
def Obligations.PlacedInstructionIsRunByTheNextStep : Prop :=
  ∀ (s : State) (nbits w : Nat) (i : Instr), decodeTableWord nbits w = some i →
    step (s.withFetchWord nbits w) = exec i (s.withFetchWord nbits w)

/-! ### One step, and interrupts -/

/-- When no interrupt is taken and the bytes at PC decode to an instruction, the step is that instruction run at that state;
the instruction itself moves PC (60_exceptions.md R232, 10_state.md R14). -/
def Obligations.StepRunsTheDecodedInstruction : Prop :=
  ∀ (s : State) (i : Instr) (rest : List Byte), NoInterrupt s → i.WellFormed → decode s.fetchBytes = .ok i rest →
    step s = exec i s

/-- When no interrupt is taken and the bytes of an instruction stand at PC, at PC + 1 and so on, modulo 65536, the step is that
instruction: bytes after its last one play no part (30_encoding.md R70, 10_state.md R15, 20_memory.md R58). -/
def Obligations.StepRunsTheInstructionWhoseBytesStandAtPC : Prop :=
  ∀ (s : State) (i : Instr), NoInterrupt s →
    (∀ k b, (encode i)[k]? = some b → s.readByte (s.pc + BitVec.ofNat 16 k) = b) → step s = exec i s

/-- The spec's step rule (its decision D17, D18, log 11): a pending NMI first, whatever I is, its latch cleared; else an asserted
IRQ while I = 0, which leaves the line as it was and holds a further IRQ off; else, an IRQ with I = 1 included, the instruction
at PC. An NMI event latches, and one that comes while the latch is set is absorbed (60_exceptions.md R232, R233, R234). -/
def Obligations.InterruptsAreTakenBeforeTheInstruction : Prop :=
  (∀ s : State, s.nmiPending = true →
    step s = .next (State.takeInterrupt s.cfg.vecNmi false { s with nmiPending := false })) ∧
  (∀ s : State, s.nmiPending = false → s.irqAsserted = true → s.i = false →
    ∃ t, step s = .next t ∧ t = s.takeInterrupt s.cfg.vecIrq false ∧
      t.irqAsserted = true ∧ t.i = true ∧ t.pendingEntry = none) ∧
  (∀ s : State, s.nmiPending = false → s.irqAsserted = true → s.i = true →
    ∀ i rest, decode s.fetchBytes = .ok i rest → step s = exec i s) ∧
  (∀ (s : State) (irq event : Bool), (s.nmiPending || event) = true →
    stepWith { irq := irq, nmi := event } s =
      .next (State.takeInterrupt s.cfg.vecNmi false { s with irqAsserted := irq, nmiPending := false }))

/-- Interrupt entry pushes PC, high byte first, then the status byte with the flags as they were, sets I and loads PC from the
vector, low byte first; it changes nothing else. The IRQ enters through `VEC_IRQ` and the NMI through `VEC_NMI`, both with the
break flag 0 (60_exceptions.md R235, 20_memory.md R49). The places of the break flag and of D, I, Z, C in the byte, the break
flag 0 and the vector's byte order are the spec's decisions D5 to D7 and D9 (log 16). -/
def Obligations.InterruptEntryPushesPCAndStatusAndSetsI : Prop :=
  (∀ (s : State) (vector : Word) (b : Bool), HandlerEntered s.pc vector b s (s.takeInterrupt vector b)) ∧
  (∀ s : State, HandlerEntered s.pc s.cfg.vecIrq false s s.takeIrq) ∧
  (∀ s : State, HandlerEntered s.pc s.cfg.vecNmi false { s with nmiPending := false } s.takeNmi) ∧
  (∀ (s : State) (vector : Word),
    (s.read16 vector).toNat = (s.readByte vector).toNat + 256 * (s.readByte (vector + 1)).toNat)

/-- The status byte as pushed: N V 1 b D I Z C from bit 7 down to bit 0 (10_state.md R18; the places below bit 5 and the 1 at bit
5 are the spec's decisions D5 and D6, log 16). -/
def Obligations.StatusByteHoldsTheFlags : Prop :=
  ∀ (s : State) (b : Bool),
    (s.srByte b).getLsbD 7 = s.n ∧ (s.srByte b).getLsbD 6 = s.v ∧ (s.srByte b).getLsbD 5 = true ∧
    (s.srByte b).getLsbD 4 = b ∧ (s.srByte b).getLsbD 3 = s.d ∧ (s.srByte b).getLsbD 2 = s.i ∧
    (s.srByte b).getLsbD 1 = s.z ∧ (s.srByte b).getLsbD 0 = s.c

/-- A pulled status byte sets the six flags from its bits 7, 6, 3, 2, 1, 0; its bits 5 and 4 are recorded nowhere, so two bytes
that differ only there leave the same state; and the byte the machine pushed sets the flags back (10_state.md R19; the places
of D, I, Z and C are the spec's decision D5, log 16). -/
def Obligations.PulledStatusByteSetsTheSixFlags : Prop :=
  (∀ (s : State) (v : Byte), s.setSR v =
    { s with
      n := v.getLsbD 7, v := v.getLsbD 6, d := v.getLsbD 3, i := v.getLsbD 2, z := v.getLsbD 1, c := v.getLsbD 0 }) ∧
  (∀ (s : State) (v w : Byte), v &&& 0xCF = w &&& 0xCF → s.setSR v = s.setSR w) ∧
  (∀ (s t : State) (b : Bool), t.setSR (s.srByte b) =
    { t with n := s.n, v := s.v, d := s.d, i := s.i, z := s.z, c := s.c })

/-- A handler that comes to RTI with SP and its three stack bytes as entry left them returns to the interrupted program: PC, SP
and the six flags are those of the moment of entry, and RTI changes nothing else (60_exceptions.md R238). That RTI adds
nothing to the pulled PC is the resolution C4 of 90_conflicts.md (log 17), and the layout of the status byte the spec's decision
D5 (log 16). -/
def Obligations.RtiReturnsFromTheHandler : Prop :=
  ∀ (s t : State) (vector : Word) (b : Bool),
    s.isRam (stackAddress s.sp) → s.isRam (stackAddress (s.sp - 1)) → s.isRam (stackAddress (s.sp - 2)) →
    t.sp = (s.takeInterrupt vector b).sp →
    (∀ a ∈ [stackAddress s.sp, stackAddress (s.sp - 1), stackAddress (s.sp - 2)],
      t.readByte a = (s.takeInterrupt vector b).readByte a) →
    exec .rti t = .next { t with
      sp := s.sp, pc := s.pc, n := s.n, v := s.v, d := s.d, i := s.i, z := s.z, c := s.c }

/-- BRK enters the handler at `VEC_BRK`, by default `$FFFE`, with return address PC + 2 and the break flag 1, whatever I is; the
byte after it is not decoded (49_interrupt_other.md R220). That I does not hold it off, that it sets I and its return address are
the resolutions C2, C3 and C7 of 90_conflicts.md (log 17); the layout of the status byte and the vector's byte order are the
spec's decisions D5, D6 and D9 (log 16). -/
def Obligations.BrkEntersTheHandler : Prop :=
  HasForms .brk [(.implied, 0x00)] ∧
  Instr.brk.length = 1 ∧ Config.default.vecBrk = 0xFFFE ∧
  (∀ b1 b2 : Byte, decode [0x00, b1, b2] = .ok .brk [b1, b2]) ∧
  (∀ s : State, ∃ t, exec .brk s = .next t ∧ HandlerEntered (s.pc + 2) s.cfg.vecBrk true s t)

/-- RTI pulls the six flags, then PC, low byte first and unchanged; SP goes up by three and nothing else changes
(49_interrupt_other.md R221). That PC is used with no + 1 is the resolution C4 of 90_conflicts.md (log 17); the places of D, I, Z
and C are the spec's decision D5 (log 16). -/
def Obligations.RtiPullsFlagsThenPC : Prop :=
  HasForms .rti [(.implied, 0x40)] ∧
  (∀ s : State,
    let sr := s.readByte (stackAddress (s.sp + 1))
    exec .rti s = .next { s with
      n := sr.getLsbD 7, v := sr.getLsbD 6, d := sr.getLsbD 3, i := sr.getLsbD 2, z := sr.getLsbD 1, c := sr.getLsbD 0
      sp := s.sp + 3
      pc := operandWord (s.readByte (stackAddress (s.sp + 2))) (s.readByte (stackAddress (s.sp + 3))) })

/-! ### Reset -/

/-- Reset sets I, clears the NMI latch, loads PC from the reset vector, takes the nine open values from `InitialState` (any),
and neither pushes nor writes memory (70_reset_and_hazards.md R260). -/
def Obligations.ResetSetsIAndLoadsPCFromTheVector : Prop :=
  ∀ (init : InitialState) (s : State), s.applyReset init =
    { s with
      i := true, nmiPending := false, pc := s.read16 s.cfg.vecReset
      a := init.a, x := init.x, y := init.y, sp := init.sp
      n := init.n, v := init.v, d := init.d, z := init.z, c := init.c }

/-- The reset state meets the invariant that every step keeps; it is what reset makes of itself, with I = 1, no NMI pending and
PC from the reset vector (10_state.md R27). The register values in it are the model's choice (log 3) and are not stated. -/
def Obligations.ResetStateMeetsTheInvariant : Prop :=
  State.reset.Inv ∧ (∃ init, State.reset.applyReset init = State.reset) ∧
  State.reset.i = true ∧ State.reset.nmiPending = false ∧
  State.reset.pc = State.reset.read16 State.reset.cfg.vecReset

/-! ### Memory and the stack -/

/-- A read gives the byte most recently written where the address is RAM; a write elsewhere has no effect, an unpopulated address
reads as the map says, and a write changes no register, flag or input (20_memory.md R51). -/
def Obligations.ReadAfterWriteFollowsTheMemoryMap : Prop :=
  ∀ (s : State) (a b : Word) (v : Byte),
    (s.writeByte a v).readByte b = (if b = a ∧ s.isRam a then v else s.readByte b) ∧
    { s.writeByte a v with mem := s.mem } = s ∧
    (¬ s.isRam a → s.writeByte a v = s) ∧
    (∀ reads, s.cfg.kindAt a.toNat = .unpopulated reads → s.readByte a = reads)

/-- Every step keeps memory in its canonical form: addresses strictly rising and below 65536, no cell that holds what an
unlisted address reads as (20_memory.md R40, R51). -/
def Obligations.EveryStepKeepsMemoryCanonical : Prop :=
  ∀ s t : State, s.Inv → step s = .next t → t.Inv

/-- Over every run under every sequence of inputs, memory stays canonical and the configuration stays as it was
(60_exceptions.md R232, R251). -/
def Obligations.EveryRunKeepsMemoryCanonicalAndTheConfiguration : Prop :=
  ∀ (inputs : List Inputs) (s t : State), s.Inv → runInputs inputs s = .next t → t.Inv ∧ t.cfg = s.cfg

/-- In canonical form, memories that hold the same byte at every address are the same data (10_state.md R23). -/
def Obligations.CanonicalMemoriesThatReadAlikeAreEqual : Prop :=
  ∀ m m' : Memory, m.wf = true → m'.wf = true → (∀ a, a < 65536 → m.read a = m'.read a) → m = m'

/-- No step writes the configuration or the IRQ line, and after a step no NMI is pending: the latch is cleared only by taking
the NMI, which comes before all else (10_state.md R24, 60_exceptions.md R234). -/
def Obligations.StepsLeaveTheInputsToTheEnvironment : Prop :=
  ∀ s t : State, step s = .next t → t.cfg = s.cfg ∧ t.irqAsserted = s.irqAsserted ∧ t.nmiPending = false

/-- A push stores at `$0100 + SP` and then decrements SP; a pull increments SP and then reads `$0100 + SP`; neither changes
anything else (20_memory.md R46, R47). -/
def Obligations.PushAndPullMoveOneStackByte : Prop :=
  (∀ (s : State) (v : Byte),
    { s.push v with mem := s.mem } = { s with sp := s.sp - 1 } ∧
    WroteByte (BitVec.ofNat 16 (0x0100 + s.sp.toNat)) v s (s.push v)) ∧
  (∀ s : State,
    s.pull = (s.readByte (BitVec.ofNat 16 (0x0100 + (s.sp.toNat + 1) % 256)), { s with sp := s.sp + 1 }))

/-- The stack wraps silently inside `$0100` to `$01FF`: at SP = `$00` a push stores at `$0100` and leaves `$FF`, at SP = `$FF` a
pull reads `$0100` and leaves `$00`, and no push changes a byte outside the page (20_memory.md R48). -/
def Obligations.StackWrapsInsidePageOne : Prop :=
  (∀ (s : State) (v : Byte), s.sp = 0x00 → (s.push v).sp = 0xFF ∧ WroteByte 0x0100 v s (s.push v)) ∧
  (∀ s : State, s.sp = 0xFF → s.pull = (s.readByte 0x0100, { s with sp := 0x00 })) ∧
  (∀ (s : State) (v : Byte) (a : Word),
    (s.push v).readByte a ≠ s.readByte a → 0x0100 ≤ a.toNat ∧ a.toNat ≤ 0x01FF)

/-- Sixteen-bit values are little-endian: in an operand, at an address, and on the stack, where the high byte is pushed first;
pulling gives back what was pushed (20_memory.md R43, R49). -/
def Obligations.SixteenBitValuesAreLittleEndian : Prop :=
  (∀ lo hi : Byte, (operandWord lo hi).toNat = lo.toNat + 256 * hi.toNat) ∧
  (∀ w : Word, operandWord (lowByte w) (highByte w) = w ∧ w.toNat = (lowByte w).toNat + 256 * (highByte w).toNat) ∧
  (∀ (s : State) (a : Word), s.read16 a = operandWord (s.readByte a) (s.readByte (a + 1))) ∧
  (∀ (s : State) (w : Word), s.isRam (stackAddress s.sp) → s.isRam (stackAddress (s.sp - 1)) →
    (s.push16 w).readByte (stackAddress s.sp) = highByte w ∧
    (s.push16 w).readByte (stackAddress (s.sp - 1)) = lowByte w ∧
    (s.push16 w).sp = s.sp - 2 ∧
    (s.push16 w).pull16 = (w, { s.push16 w with sp := s.sp }))

/-! ### Addressing modes -/

/-- The modes that form their address without a pointer: in page zero modulo 256, elsewhere modulo 65536; a page boundary is
crossed exactly when the low byte and the index carry; only LDX `$B6` and STX `$96` have the mode `zeropage,Y`
(30_encoding.md R83, R84, R85, R87, R88). -/
def Obligations.DirectModesFormTheirAddresses : Prop :=
  (∀ (s : State) (b : Byte) (w : Word),
    (s.effectiveAddress (.zeropage b)).map BitVec.toNat = some b.toNat ∧
    (s.effectiveAddress (.zeropageX b)).map BitVec.toNat = some ((b.toNat + s.x.toNat) % 256) ∧
    (s.effectiveAddress (.zeropageY b)).map BitVec.toNat = some ((b.toNat + s.y.toNat) % 256) ∧
    s.effectiveAddress (.absolute w) = some w ∧
    (s.effectiveAddress (.absoluteX w)).map BitVec.toNat = some ((w.toNat + s.x.toNat) % 65536) ∧
    (s.effectiveAddress (.absoluteY w)).map BitVec.toNat = some ((w.toNat + s.y.toNat) % 65536) ∧
    (s.pageCrossed (.absoluteX w) = true ↔ 256 ≤ w.toNat % 256 + s.x.toNat) ∧
    (s.pageCrossed (.absoluteY w) = true ↔ 256 ≤ w.toNat % 256 + s.y.toNat)) ∧
  (∀ i : Instr, i.operand.mode = .zeropageY ↔
    (i.mnemonic = .ldx ∧ i.opcode = 0xB6) ∨ (i.mnemonic = .stx ∧ i.opcode = 0x96))

/-- The two indirect modes read both bytes of their pointer in page zero; `(indirect),Y` adds Y to the whole pointer, and
crosses a page exactly when the pointer's low byte and Y carry (30_encoding.md R91, R92). -/
def Obligations.IndirectModesReadTheirPointersInPageZero : Prop :=
  ∀ (s : State) (b : Byte),
    let byteAt := fun p : Nat => (s.readByte (BitVec.ofNat 16 p)).toNat
    let p := (b.toNat + s.x.toNat) % 256
    let base := byteAt b.toNat + 256 * byteAt ((b.toNat + 1) % 256)
    (s.effectiveAddress (.indirectX b)).map BitVec.toNat = some (byteAt p + 256 * byteAt ((p + 1) % 256)) ∧
    (s.effectiveAddress (.indirectY b)).map BitVec.toNat = some ((base + s.y.toNat) % 65536) ∧
    (s.pageCrossed (.indirectY b) = true ↔ 256 ≤ base % 256 + s.y.toNat)

/-- `JMP (oper)`, opcode `$6C` and no other, goes to the pointer at `w`; its high byte comes from the same page when
`JMP_IND_PAGE_WRAP` is true and from the next address when it is false (30_encoding.md R93). -/
def Obligations.JumpIndirectReadsItsPointer : Prop :=
  (∀ i : Instr, i.operand.mode = .indirect ↔ i.mnemonic = .jmp ∧ i.opcode = 0x6C) ∧
  Config.default.jmpIndPageWrap = true ∧
  (∀ (s : State) (w : Word),
    let highAt :=
      if s.cfg.jmpIndPageWrap then w.toNat / 256 * 256 + (w.toNat + 1) % 256 else (w.toNat + 1) % 65536
    (s.effectiveAddress (.indirect w)).map BitVec.toNat =
      some ((s.readByte w).toNat + 256 * (s.readByte (BitVec.ofNat 16 highAt)).toNat))

/-- An operand is the immediate byte, A, or the byte at the effective address; storing one writes A or that byte and nothing
else; implied, accumulator and immediate are the modes without an address (30_encoding.md R81, R82, R94). -/
def Obligations.OperandsAreReadAndStoredThroughTheirMode : Prop :=
  (∀ (s : State) (o : Operand),
    s.effectiveAddress o = none ↔ o.mode = .implied ∨ o.mode = .accumulator ∨ o.mode = .immediate) ∧
  (∀ (s : State) (b v : Byte),
    s.loadOperand (.immediate b) = b ∧ s.loadOperand .accumulator = s.a ∧
    s.storeOperand .accumulator v = { s with a := v }) ∧
  (∀ (s : State) (o : Operand) (ea : Word) (v : Byte), s.effectiveAddress o = some ea →
    s.loadOperand o = s.readByte ea ∧
    { s.storeOperand o v with mem := s.mem } = s ∧ WroteByte ea v s (s.storeOperand o v))

/-- A branch target is PC + 2 plus the signed offset, modulo 65536; the assembler's offset byte of a target in reach leads back
to that target, and every offset byte is the one the assembler stores for its target (30_encoding.md R90, R97). The wrap of the
target is the spec's decision D26 (log 16); that a target across the wrap is in the assembler's reach is the model's choice
(log 21). -/
def Obligations.BranchOffsetsReachTheirTargets : Prop :=
  (∀ (pc : Word) (b : Byte), ((branchTarget pc b).toNat : Int) = ((pc.toNat : Int) + 2 + b.toInt) % 65536) ∧
  (∀ (pc target : Word) (b : Byte), branchOffset pc target = some b → branchTarget pc b = target) ∧
  (∀ (pc : Word) (b : Byte), branchOffset pc (branchTarget pc b) = some b)

/-! ### Transfers and the stack instructions -/

/-- LDA, LDX and LDY, in every form, take the operand into their register, set N and Z from it, move PC on by the instruction's
length, and change nothing else (40_transfer.md R110, R111, R112). -/
def Obligations.LoadsTakeTheOperandAndSetNZ : Prop :=
  HasForms .lda [(.immediate, 0xA9), (.zeropage, 0xA5), (.zeropageX, 0xB5), (.absolute, 0xAD),
    (.absoluteX, 0xBD), (.absoluteY, 0xB9), (.indirectX, 0xA1), (.indirectY, 0xB1)] ∧
  HasForms .ldx [(.immediate, 0xA2), (.zeropage, 0xA6), (.zeropageY, 0xB6), (.absolute, 0xAE),
    (.absoluteY, 0xBE)] ∧
  HasForms .ldy [(.immediate, 0xA0), (.zeropage, 0xA4), (.zeropageX, 0xB4), (.absolute, 0xAC),
    (.absoluteX, 0xBC)] ∧
  (∀ (i : Instr) (s : State),
    let v := s.loadOperand i.operand
    let next := s.pc + BitVec.ofNat 16 i.length
    (i.mnemonic = .lda → exec i s = .next { s with a := v, n := v.getLsbD 7, z := decide (v = 0), pc := next }) ∧
    (i.mnemonic = .ldx → exec i s = .next { s with x := v, n := v.getLsbD 7, z := decide (v = 0), pc := next }) ∧
    (i.mnemonic = .ldy → exec i s = .next { s with y := v, n := v.getLsbD 7, z := decide (v = 0), pc := next }))

/-- STA, STX and STY, in every form, write their register to the byte at the effective address, and change nothing else but PC
(40_transfer.md R113, R114, R115). -/
def Obligations.StoresWriteOneByte : Prop :=
  HasForms .sta [(.zeropage, 0x85), (.zeropageX, 0x95), (.absolute, 0x8D), (.absoluteX, 0x9D),
    (.absoluteY, 0x99), (.indirectX, 0x81), (.indirectY, 0x91)] ∧
  HasForms .stx [(.zeropage, 0x86), (.zeropageY, 0x96), (.absolute, 0x8E)] ∧
  HasForms .sty [(.zeropage, 0x84), (.zeropageX, 0x94), (.absolute, 0x8C)] ∧
  (∀ (i : Instr) (s : State) (v : Byte),
    (i.mnemonic = .sta ∧ v = s.a) ∨ (i.mnemonic = .stx ∧ v = s.x) ∨ (i.mnemonic = .sty ∧ v = s.y) →
    ∃ ea t, s.effectiveAddress i.operand = some ea ∧ exec i s = .next t ∧
      { t with mem := s.mem } = { s with pc := s.pc + BitVec.ofNat 16 i.length } ∧ WroteByte ea v s t)

/-- The six register transfers: the byte moved, N and Z from it, but for TXS, which sets no flag
(40_transfer.md R116 to R121). -/
def Obligations.TransfersMoveOneRegister : Prop :=
  HasForms .tax [(.implied, 0xAA)] ∧
  HasForms .tay [(.implied, 0xA8)] ∧
  HasForms .tsx [(.implied, 0xBA)] ∧
  HasForms .txa [(.implied, 0x8A)] ∧
  HasForms .txs [(.implied, 0x9A)] ∧
  HasForms .tya [(.implied, 0x98)] ∧
  (∀ s : State,
    exec .tax s = .next { s with x := s.a, n := s.a.getLsbD 7, z := decide (s.a = 0), pc := s.pc + 1 } ∧
    exec .tay s = .next { s with y := s.a, n := s.a.getLsbD 7, z := decide (s.a = 0), pc := s.pc + 1 } ∧
    exec .tsx s = .next { s with x := s.sp, n := s.sp.getLsbD 7, z := decide (s.sp = 0), pc := s.pc + 1 } ∧
    exec .txa s = .next { s with a := s.x, n := s.x.getLsbD 7, z := decide (s.x = 0), pc := s.pc + 1 } ∧
    exec .txs s = .next { s with sp := s.x, pc := s.pc + 1 } ∧
    exec .tya s = .next { s with a := s.y, n := s.y.getLsbD 7, z := decide (s.y = 0), pc := s.pc + 1 })

/-- PHA pushes A; PLA pulls A and sets N and Z from it. SP moves by one and nothing else changes but PC (41_stack.md R130,
R132). -/
def Obligations.PhaAndPlaMoveAThroughTheStack : Prop :=
  HasForms .pha [(.implied, 0x48)] ∧
  HasForms .pla [(.implied, 0x68)] ∧
  (∀ s : State, ∃ t, exec .pha s = .next t ∧
    { t with mem := s.mem } = { s with sp := s.sp - 1, pc := s.pc + 1 } ∧
    WroteByte (stackAddress s.sp) s.a s t) ∧
  (∀ s : State,
    let v := s.readByte (stackAddress (s.sp + 1))
    exec .pla s = .next { s with
      a := v, n := v.getLsbD 7, z := decide (v = 0), sp := s.sp + 1, pc := s.pc + 1 })

/-- PHP pushes N V 1 1 D I Z C; PLP pulls the six flags and drops bits 5 and 4. SP moves by one and nothing else changes but PC
(41_stack.md R131, R133; the places below bit 5 are the spec's decision D5, log 16). -/
def Obligations.PhpAndPlpMoveTheFlagsThroughTheStack : Prop :=
  HasForms .php [(.implied, 0x08)] ∧
  HasForms .plp [(.implied, 0x28)] ∧
  (∀ s : State, ∃ t, exec .php s = .next t ∧
    { t with mem := s.mem } = { s with sp := s.sp - 1, pc := s.pc + 1 } ∧
    WroteByte (stackAddress s.sp)
      (BitVec.ofNat 8 (s.n.toNat * 128 + s.v.toNat * 64 + 32 + 16 + s.d.toNat * 8 + s.i.toNat * 4 + s.z.toNat * 2 +
        s.c.toNat)) s t) ∧
  (∀ s : State,
    let v := s.readByte (stackAddress (s.sp + 1))
    exec .plp s = .next { s with
      n := v.getLsbD 7, v := v.getLsbD 6, d := v.getLsbD 3, i := v.getLsbD 2, z := v.getLsbD 1, c := v.getLsbD 0
      sp := s.sp + 1, pc := s.pc + 1 }) ∧
  (∀ s t : State, exec .php s = .next t → s.isRam (stackAddress s.sp) → exec .plp t =
    .next { t with sp := s.sp, pc := s.pc + 2 })

/-! ### Increments, decrements, arithmetic, logic -/

/-- DEC and INC replace the byte at the effective address by it minus or plus one, modulo 256, and set N and Z from the new byte;
C, V, D, I and the registers keep their values (42_incdec.md R140, R143). -/
def Obligations.MemoryIsCountedByOne : Prop :=
  HasForms .dec [(.zeropage, 0xC6), (.zeropageX, 0xD6), (.absolute, 0xCE), (.absoluteX, 0xDE)] ∧
  HasForms .inc [(.zeropage, 0xE6), (.zeropageX, 0xF6), (.absolute, 0xEE), (.absoluteX, 0xFE)] ∧
  (∀ (i : Instr) (s : State), i.mnemonic = .dec ∨ i.mnemonic = .inc →
    ∃ ea t r, s.effectiveAddress i.operand = some ea ∧ exec i s = .next t ∧
      (i.mnemonic = .dec → (r : Byte).toNat = ((s.readByte ea).toNat + 255) % 256) ∧
      (i.mnemonic = .inc → r.toNat = ((s.readByte ea).toNat + 1) % 256) ∧
      { t with mem := s.mem } =
        { s with n := r.getLsbD 7, z := decide (r = 0), pc := s.pc + BitVec.ofNat 16 i.length } ∧
      WroteByte ea r s t)

/-- DEX, DEY, INX and INY count X or Y by one, modulo 256, and set N and Z from the result; nothing else changes but PC
(42_incdec.md R141, R142, R144, R145). -/
def Obligations.IndexRegistersAreCountedByOne : Prop :=
  HasForms .dex [(.implied, 0xCA)] ∧
  HasForms .dey [(.implied, 0x88)] ∧
  HasForms .inx [(.implied, 0xE8)] ∧
  HasForms .iny [(.implied, 0xC8)] ∧
  (∀ s : State,
    let less := fun v : Byte => BitVec.ofNat 8 (v.toNat + 255)
    let more := fun v : Byte => BitVec.ofNat 8 (v.toNat + 1)
    exec .dex s = .next { s with
      x := less s.x, n := (less s.x).getLsbD 7, z := decide (less s.x = 0), pc := s.pc + 1 } ∧
    exec .dey s = .next { s with
      y := less s.y, n := (less s.y).getLsbD 7, z := decide (less s.y = 0), pc := s.pc + 1 } ∧
    exec .inx s = .next { s with
      x := more s.x, n := (more s.x).getLsbD 7, z := decide (more s.x = 0), pc := s.pc + 1 } ∧
    exec .iny s = .next { s with
      y := more s.y, n := (more s.y).getLsbD 7, z := decide (more s.y = 0), pc := s.pc + 1 })

/-- ADC with D = 0, in every form: A becomes the sum of A, the operand and C modulo 256; C is the carry out; V is the formula's
bit, 1 exactly when the signed sum is outside -128 to 127; N and Z follow the result; nothing else changes but PC
(43_arithmetic.md R151; V is the spec's decision D14, log 16). -/
def Obligations.AdcAddsWithCarry : Prop :=
  HasForms .adc [(.immediate, 0x69), (.zeropage, 0x65), (.zeropageX, 0x75), (.absolute, 0x6D),
    (.absoluteX, 0x7D), (.absoluteY, 0x79), (.indirectX, 0x61), (.indirectY, 0x71)] ∧
  (∀ (i : Instr) (s : State), i.mnemonic = .adc → s.d = false →
    let m := s.loadOperand i.operand
    let t := s.a.toNat + m.toNat + s.c.toNat
    let r := BitVec.ofNat 8 t
    let signed : Int := s.a.toInt + m.toInt + s.c.toNat
    ∃ v : Bool,
      exec i s = .next { s with
        a := r, c := decide (256 ≤ t), v := v, n := r.getLsbD 7, z := decide (r = 0)
        pc := s.pc + BitVec.ofNat 16 i.length } ∧
      v = ((s.a ^^^ r) &&& (m ^^^ r)).getLsbD 7 ∧ (v = true ↔ signed < -128 ∨ 127 < signed))

/-- SBC with D = 0, in every form: A becomes A minus the operand minus the borrow modulo 256; C is 1 when no borrow was needed;
V is the formula's bit, 1 exactly when the signed difference is outside -128 to 127; N and Z follow the result; nothing else
changes but PC. Its result and flags are those ADC computes from the operand's one's complement (43_arithmetic.md R152; the
bar over C is restored as in 90_conflicts.md C5, log 17; V is the spec's decision D14, log 16). -/
def Obligations.SbcSubtractsWithBorrow : Prop :=
  HasForms .sbc [(.immediate, 0xE9), (.zeropage, 0xE5), (.zeropageX, 0xF5), (.absolute, 0xED),
    (.absoluteX, 0xFD), (.absoluteY, 0xF9), (.indirectX, 0xE1), (.indirectY, 0xF1)] ∧
  (∀ (i : Instr) (s : State), i.mnemonic = .sbc → s.d = false →
    let m := s.loadOperand i.operand
    let t : Int := (s.a.toNat : Int) - m.toNat - (1 - s.c.toNat)
    let r := BitVec.ofInt 8 t
    let signed : Int := s.a.toInt - m.toInt - (1 - s.c.toNat)
    ∃ v : Bool,
      exec i s = .next { s with
        a := r, c := decide (0 ≤ t), v := v, n := r.getLsbD 7, z := decide (r = 0)
        pc := s.pc + BitVec.ofNat 16 i.length } ∧
      v = ((s.a ^^^ m) &&& (s.a ^^^ r)).getLsbD 7 ∧ (v = true ↔ signed < -128 ∨ 127 < signed)) ∧
  (∀ (a m : Byte) (c : Bool), sbcBinary a m c = adcBinary a (~~~m) c)

/-- With D = 1, ADC and SBC run and take A, C, N, V and Z from the configuration functions of A, the operand and C; nothing else
changes but PC (43_arithmetic.md R150, R153). That they run rather than refuse is the model's choice (log 1). -/
def Obligations.DecimalModeTakesTheConfigurationFunctions : Prop :=
  ∀ (i : Instr) (s : State) (q : ArithResult), s.d = true →
    (i.mnemonic = .adc ∧ q = Config.decimalAdc s.a (s.loadOperand i.operand) s.c) ∨
    (i.mnemonic = .sbc ∧ q = Config.decimalSbc s.a (s.loadOperand i.operand) s.c) →
    exec i s = .next { s with
      a := q.r, c := q.c, n := q.n, v := q.v, z := q.z, pc := s.pc + BitVec.ofNat 16 i.length }

/-- No instruction but ADC and SBC depends on D, apart from PHP and BRK, which push it: run with D changed, any other instruction
answers the same state but for D itself, which only SED, CLD, PLP and RTI determine (43_arithmetic.md R150, 10_state.md
R21). -/
def Obligations.OnlyAdcAndSbcDependOnD : Prop :=
  ∀ (i : Instr) (s t : State) (b : Bool),
    i.mnemonic ∉ [Mnemonic.adc, .sbc, .php, .brk] → exec i s = .next t →
    exec i { s with d := b } =
      .next { t with d := if i.mnemonic ∈ [Mnemonic.sed, .cld, .plp, .rti] then t.d else b }

/-- AND, EOR and ORA, in every form: A becomes the bitwise combination of A and the operand, N and Z follow it, and nothing else
changes but PC (44_logical.md R160, R161, R162). -/
def Obligations.LogicalOperationsCombineBitByBit : Prop :=
  HasForms .and [(.immediate, 0x29), (.zeropage, 0x25), (.zeropageX, 0x35), (.absolute, 0x2D),
    (.absoluteX, 0x3D), (.absoluteY, 0x39), (.indirectX, 0x21), (.indirectY, 0x31)] ∧
  HasForms .eor [(.immediate, 0x49), (.zeropage, 0x45), (.zeropageX, 0x55), (.absolute, 0x4D),
    (.absoluteX, 0x5D), (.absoluteY, 0x59), (.indirectX, 0x41), (.indirectY, 0x51)] ∧
  HasForms .ora [(.immediate, 0x09), (.zeropage, 0x05), (.zeropageX, 0x15), (.absolute, 0x0D),
    (.absoluteX, 0x1D), (.absoluteY, 0x19), (.indirectX, 0x01), (.indirectY, 0x11)] ∧
  (∀ (i : Instr) (s : State) (f : Bool → Bool → Bool),
    (i.mnemonic = .and ∧ f = fun p q => p && q) ∨ (i.mnemonic = .eor ∧ f = fun p q => p != q) ∨
      (i.mnemonic = .ora ∧ f = fun p q => p || q) →
    ∃ r : Byte, (∀ k, k < 8 → r.getLsbD k = f (s.a.getLsbD k) ((s.loadOperand i.operand).getLsbD k)) ∧
      exec i s = .next { s with
        a := r, n := r.getLsbD 7, z := decide (r = 0), pc := s.pc + BitVec.ofNat 16 i.length })

/-! ### Shifts, flags, comparisons -/

/-- ASL and LSR, in every form, move the operand by one bit with a zero entering and the bit that leaves going to C; the result
goes where the operand was; N and Z follow it, and LSR's N is 0 (45_shift_rotate.md R170, R171). -/
def Obligations.ShiftsMoveByOneBit : Prop :=
  HasForms .asl [(.accumulator, 0x0A), (.zeropage, 0x06), (.zeropageX, 0x16), (.absolute, 0x0E),
    (.absoluteX, 0x1E)] ∧
  HasForms .lsr [(.accumulator, 0x4A), (.zeropage, 0x46), (.zeropageX, 0x56), (.absolute, 0x4E),
    (.absoluteX, 0x5E)] ∧
  (∀ (i : Instr) (s : State), i.mnemonic = .asl →
    let v := s.loadOperand i.operand
    ∃ r : Byte, r.toNat = v.toNat * 2 % 256 ∧ r.getLsbD 0 = false ∧
      (∀ k, k < 7 → r.getLsbD (k + 1) = v.getLsbD k) ∧ StoredBack i s r (v.getLsbD 7)) ∧
  (∀ (i : Instr) (s : State), i.mnemonic = .lsr →
    let v := s.loadOperand i.operand
    ∃ r : Byte, r.toNat = v.toNat / 2 ∧ r.getLsbD 7 = false ∧
      (∀ k, k < 7 → r.getLsbD k = v.getLsbD (k + 1)) ∧ StoredBack i s r (v.getLsbD 0))

/-- ROL and ROR, in every form, move the operand by one bit with the old carry entering and the bit that leaves going to C; the
result goes where the operand was; N and Z follow it (45_shift_rotate.md R172, R173). That ROR takes the old carry at
bit 7 is the resolution C1 of 90_conflicts.md (log 17). -/
def Obligations.RotatesPassThroughTheCarry : Prop :=
  HasForms .rol [(.accumulator, 0x2A), (.zeropage, 0x26), (.zeropageX, 0x36), (.absolute, 0x2E),
    (.absoluteX, 0x3E)] ∧
  HasForms .ror [(.accumulator, 0x6A), (.zeropage, 0x66), (.zeropageX, 0x76), (.absolute, 0x6E),
    (.absoluteX, 0x7E)] ∧
  (∀ (i : Instr) (s : State), i.mnemonic = .rol →
    let v := s.loadOperand i.operand
    ∃ r : Byte, r.toNat = v.toNat * 2 % 256 + s.c.toNat ∧ r.getLsbD 0 = s.c ∧
      (∀ k, k < 7 → r.getLsbD (k + 1) = v.getLsbD k) ∧ StoredBack i s r (v.getLsbD 7)) ∧
  (∀ (i : Instr) (s : State), i.mnemonic = .ror →
    let v := s.loadOperand i.operand
    ∃ r : Byte, r.toNat = v.toNat / 2 + 128 * s.c.toNat ∧ r.getLsbD 7 = s.c ∧
      (∀ k, k < 7 → r.getLsbD k = v.getLsbD (k + 1)) ∧ StoredBack i s r (v.getLsbD 0))

/-- ROL and ROR of the same operand, in either order, restore A, the carry and every byte of memory, where the operand in memory
is RAM (45_shift_rotate.md R172, R173). That ROR takes the old carry at bit 7 is the resolution C1 of 90_conflicts.md (log 17). -/
def Obligations.RotatesUndoEachOther : Prop :=
  ∀ (i j : Instr) (s : State),
    (i.mnemonic = .rol ∧ j.mnemonic = .ror) ∨ (i.mnemonic = .ror ∧ j.mnemonic = .rol) → i.operand = j.operand →
    (∀ ea, s.effectiveAddress i.operand = some ea → s.isRam ea) →
    ∃ t u, exec i s = .next t ∧ exec j t = .next u ∧ u.a = s.a ∧ u.c = s.c ∧ ∀ w, u.readByte w = s.readByte w

/-- Each flag instruction writes its constant to its flag and moves PC on, and does nothing else; NOP moves PC on alone
(46_flag.md R180 to R186, 49_interrupt_other.md R223). -/
def Obligations.FlagInstructionsWriteOneFlagAndNopNone : Prop :=
  HasForms .clc [(.implied, 0x18)] ∧
  HasForms .cld [(.implied, 0xD8)] ∧
  HasForms .cli [(.implied, 0x58)] ∧
  HasForms .clv [(.implied, 0xB8)] ∧
  HasForms .sec [(.implied, 0x38)] ∧
  HasForms .sed [(.implied, 0xF8)] ∧
  HasForms .sei [(.implied, 0x78)] ∧
  HasForms .nop [(.implied, 0xEA)] ∧
  (∀ s : State,
    exec .clc s = .next { s with c := false, pc := s.pc + 1 } ∧
    exec .cld s = .next { s with d := false, pc := s.pc + 1 } ∧
    exec .cli s = .next { s with i := false, pc := s.pc + 1 } ∧
    exec .clv s = .next { s with v := false, pc := s.pc + 1 } ∧
    exec .sec s = .next { s with c := true, pc := s.pc + 1 } ∧
    exec .sed s = .next { s with d := true, pc := s.pc + 1 } ∧
    exec .sei s = .next { s with i := true, pc := s.pc + 1 } ∧
    exec .nop s = .next { s with pc := s.pc + 1 })

/-- CMP, CPX and CPY, in every form: Z for equality, C for the unsigned order, N from the 8-bit difference; no register, V, D, I
or byte of memory changes. N, Z and C are those of SBC with C = 1 and D = 0 (47_compare.md R190 to R193). -/
def Obligations.ComparisonsSetNZC : Prop :=
  HasForms .cmp [(.immediate, 0xC9), (.zeropage, 0xC5), (.zeropageX, 0xD5), (.absolute, 0xCD),
    (.absoluteX, 0xDD), (.absoluteY, 0xD9), (.indirectX, 0xC1), (.indirectY, 0xD1)] ∧
  HasForms .cpx [(.immediate, 0xE0), (.zeropage, 0xE4), (.absolute, 0xEC)] ∧
  HasForms .cpy [(.immediate, 0xC0), (.zeropage, 0xC4), (.absolute, 0xCC)] ∧
  (∀ (i : Instr) (s : State) (reg : Byte),
    (i.mnemonic = .cmp ∧ reg = s.a) ∨ (i.mnemonic = .cpx ∧ reg = s.x) ∨ (i.mnemonic = .cpy ∧ reg = s.y) →
    let m := s.loadOperand i.operand
    exec i s = .next { s with
      z := decide (reg = m), c := decide (m.toNat ≤ reg.toNat), n := (reg - m).getLsbD 7
      pc := s.pc + BitVec.ofNat 16 i.length }) ∧
  (∀ reg m : Byte,
    (sbcBinary reg m true).z = decide (reg = m) ∧ (sbcBinary reg m true).c = decide (m.toNat ≤ reg.toNat) ∧
    (sbcBinary reg m true).n = (reg - m).getLsbD 7)

/-! ### Control flow and BIT -/

/-- Each branch tests one flag: taken, PC becomes PC + 2 plus the signed offset, else PC + 2; nothing else changes
(48_branch_jump.md R200 to R208). -/
def Obligations.BranchesTestOneFlag : Prop :=
  HasForms .bcc [(.relative, 0x90)] ∧
  HasForms .bcs [(.relative, 0xB0)] ∧
  HasForms .beq [(.relative, 0xF0)] ∧
  HasForms .bmi [(.relative, 0x30)] ∧
  HasForms .bne [(.relative, 0xD0)] ∧
  HasForms .bpl [(.relative, 0x10)] ∧
  HasForms .bvc [(.relative, 0x50)] ∧
  HasForms .bvs [(.relative, 0x70)] ∧
  (∀ (s : State) (b : Byte),
    let taken := s.pc + 2 + b.signExtend 16
    let next := s.pc + 2
    exec (.bcc b) s = .next { s with pc := if s.c = false then taken else next } ∧
    exec (.bcs b) s = .next { s with pc := if s.c = true then taken else next } ∧
    exec (.beq b) s = .next { s with pc := if s.z = true then taken else next } ∧
    exec (.bmi b) s = .next { s with pc := if s.n = true then taken else next } ∧
    exec (.bne b) s = .next { s with pc := if s.z = false then taken else next } ∧
    exec (.bpl b) s = .next { s with pc := if s.n = false then taken else next } ∧
    exec (.bvc b) s = .next { s with pc := if s.v = false then taken else next } ∧
    exec (.bvs b) s = .next { s with pc := if s.v = true then taken else next })

/-- JMP writes PC alone: the operand, or the pointer read through it; a JMP to its own address leaves the state as it is
(48_branch_jump.md R210). -/
def Obligations.JumpsWritePCAlone : Prop :=
  HasForms .jmp [(.absolute, 0x4C), (.indirect, 0x6C)] ∧
  (∀ (s : State) (w : Word), exec (.jmpAbs w) s = .next { s with pc := w }) ∧
  (∀ (s : State) (w : Word), ∃ target, s.effectiveAddress (.indirect w) = some target ∧
    exec (.jmpInd w) s = .next { s with pc := target }) ∧
  (∀ s : State, exec (.jmpAbs s.pc) s = .next s)

/-- JSR pushes PC + 2, high byte first, and jumps; RTS pulls an address, low byte first, and goes to the one after it; no flag
and no other register changes (48_branch_jump.md R211, R212). -/
def Obligations.SubroutinesSaveAndRestorePC : Prop :=
  HasForms .jsr [(.absolute, 0x20)] ∧
  HasForms .rts [(.implied, 0x60)] ∧
  (∀ (s : State) (w : Word), ∃ t, exec (.jsr w) s = .next t ∧
    { t with mem := s.mem } = { s with sp := s.sp - 2, pc := w } ∧
    MemorySameBut [stackAddress s.sp, stackAddress (s.sp - 1)] s t ∧
    (s.isRam (stackAddress s.sp) → t.readByte (stackAddress s.sp) = highByte (s.pc + 2)) ∧
    (s.isRam (stackAddress (s.sp - 1)) → t.readByte (stackAddress (s.sp - 1)) = lowByte (s.pc + 2))) ∧
  (∀ s : State, exec .rts s = .next { s with
    sp := s.sp + 2
    pc := operandWord (s.readByte (stackAddress (s.sp + 1))) (s.readByte (stackAddress (s.sp + 2))) + 1 })

/-- A subroutine that comes to RTS with SP and its two stack bytes as JSR left them returns to the instruction after the JSR,
with SP as before the call (48_branch_jump.md R211, R212, R213). -/
def Obligations.RtsReturnsAfterTheJsr : Prop :=
  ∀ (s t u : State) (w : Word),
    s.isRam (stackAddress s.sp) → s.isRam (stackAddress (s.sp - 1)) → exec (.jsr w) s = .next t →
    u.sp = t.sp →
    (∀ a ∈ [stackAddress s.sp, stackAddress (s.sp - 1)], u.readByte a = t.readByte a) →
    exec .rts u = .next { u with sp := s.sp, pc := s.pc + 3 }

/-- BIT takes N and V from bits 7 and 6 of the byte and Z from its AND with A, and changes nothing else but PC
(49_interrupt_other.md R222; that Z is the zero test of the AND is 90_conflicts.md C9 and the spec's decision D15, log 17). -/
def Obligations.BitTestsAByteOfMemory : Prop :=
  HasForms .bit [(.zeropage, 0x24), (.absolute, 0x2C)] ∧
  (∀ (i : Instr) (s : State), i.mnemonic = .bit →
    ∃ ea, s.effectiveAddress i.operand = some ea ∧
      let m := s.readByte ea
      exec i s = .next { s with
        n := m.getLsbD 7, v := m.getLsbD 6, z := decide (s.a &&& m = 0), pc := s.pc + BitVec.ofNat 16 i.length })

/-! ### The machine as a whole -/

/-- No listed instruction can fail: every one of them, with every operand, in every state, goes on to a next state, with the
configuration and the interrupt inputs as they were (60_exceptions.md R230). That ADC and SBC run when D = 1 is the model's choice
(log 1). -/
def Obligations.EveryInstructionCompletes : Prop :=
  ∀ (i : Instr) (s : State), ∃ t, exec i s = .next t ∧
    t.cfg = s.cfg ∧ t.irqAsserted = s.irqAsserted ∧ t.nmiPending = s.nmiPending

/-- A step goes on unless no interrupt is taken and the byte at PC is one of the 105 the table does not list, and then it is
refused; a run under any inputs goes on to its end unless it comes to such a byte (60_exceptions.md R230, 30_encoding.md
R77). The refusal is the spec's decision D12 (log 15); that ADC and SBC go on when D = 1 is the model's choice (log 1). -/
def Obligations.OnlyAnUnlistedOpcodeStopsTheMachine : Prop :=
  (∀ s : State, SafeStep s ∨
    (NoInterrupt s ∧ s.fetchByte 0 ∈ unlistedOpcodes ∧ step s = .refused (.unlistedOpcode (s.fetchByte 0)))) ∧
  (∀ (inputs : List Inputs) (s : State), SafeRun inputs s ∨
    ∃ op ∈ unlistedOpcodes, runInputs inputs s = .refused (.unlistedOpcode op))

/-- Every flag keeps its value through every instruction the flag table does not name as its writer (10_state.md R21). -/
def Obligations.FlagsChangeOnlyWhereTheTableSays : Prop :=
  ∀ (i : Instr) (s t : State) (f : Flag), exec i s = .next t → i.mnemonic ∉ flagWriters f → t.flag f = s.flag f

/-- A, X, Y and SP keep their values through every instruction the register rules do not name as their writer, and no instruction
writes the configuration or the interrupt inputs (10_state.md R10, R11, R12, R24, R26). -/
def Obligations.RegistersChangeOnlyWhereTheRulesSay : Prop :=
  ∀ (i : Instr) (s t : State), exec i s = .next t →
    (writesA i = false → t.a = s.a) ∧ (i.mnemonic ∉ xWriters → t.x = s.x) ∧ (i.mnemonic ∉ yWriters → t.y = s.y) ∧
    (i.mnemonic ∉ spWriters → t.sp = s.sp) ∧
    t.cfg = s.cfg ∧ t.irqAsserted = s.irqAsserted ∧ t.nmiPending = s.nmiPending

/-- Every byte of memory keeps its value through every instruction but those it stores: the byte at the effective address for a
store or a read-modify-write instruction, the stack bytes for a push, JSR or BRK, none for any other (10_state.md R26,
20_memory.md R52). -/
def Obligations.MemoryChangesOnlyWhereAnInstructionStores : Prop :=
  ∀ (i : Instr) (s t : State), exec i s = .next t → MemorySameBut (s.storedAddresses i) s t

/-- The cycle counts by mode and kind of instruction, with the page-crossing and branch additions (70_reset_and_hazards.md R272,
R273, 30_encoding.md R89). The reading of the branch note is 90_conflicts.md C10 (log 18). -/
def Obligations.CyclesFollowTheModeAndTheMarks : Prop :=
  (∀ (i : Instr) (s : State),
    i.mnemonic ∈ [Mnemonic.adc, .and, .cmp, .cpx, .cpy, .eor, .lda, .ldx, .ldy, .ora, .sbc, .bit] →
    cycles i s =
      match i.operand with
      | .immediate _ => 2
      | .zeropage _ => 3
      | .zeropageX _ => 4
      | .zeropageY _ => 4
      | .absolute _ => 4
      | .absoluteX w => if 256 ≤ w.toNat % 256 + s.x.toNat then 5 else 4
      | .absoluteY w => if 256 ≤ w.toNat % 256 + s.y.toNat then 5 else 4
      | .indirectX _ => 6
      | .indirectY b => if 256 ≤ (s.readByte (b.setWidth 16)).toNat + s.y.toNat then 6 else 5
      | _ => 0) ∧
  (∀ (i : Instr) (s : State), i.mnemonic ∈ [Mnemonic.sta, .stx, .sty] →
    cycles i s =
      match i.operand.mode with
      | .zeropage => 3
      | .zeropageX => 4
      | .zeropageY => 4
      | .absolute => 4
      | .absoluteX => 5
      | .absoluteY => 5
      | .indirectX => 6
      | .indirectY => 6
      | _ => 0) ∧
  (∀ (i : Instr) (s : State), i.mnemonic ∈ [Mnemonic.asl, .lsr, .rol, .ror, .inc, .dec] →
    cycles i s =
      match i.operand.mode with
      | .accumulator => 2
      | .zeropage => 5
      | .zeropageX => 6
      | .absolute => 6
      | .absoluteX => 7
      | _ => 0) ∧
  (∀ (i : Instr) (s : State) (b : Byte), i.operand = .relative b →
    cycles i s =
      if s.branchTaken i.mnemonic then
        if highByte (branchTarget s.pc b) = highByte (s.pc + 2) then 3 else 4
      else 2)
end

