-- ==== Sys2Proof/Laws/Decode.lean ====
section
/-! SUPPORT. Laws of the byte-order helpers of the decoder and encoder. -/

namespace Sys2Proof

/-- A word is put back together from its two bytes. -/
@[simp] theorem operandWord_lowByte_highByte (w : Word) : operandWord (lowByte w) (highByte w) = w := by
  simp only [operandWord, lowByte, highByte]
  ext i hi
  simp only [BitVec.getElem_append, BitVec.getElem_extractLsb']
  split
  · simp [BitVec.getLsbD_eq_getElem, *]
  · have : 8 + (i - 8) = i := by omega
    simp [this, BitVec.getLsbD_eq_getElem, hi]

/-- A word made of two bytes as a number: the low byte and 256 times the high byte (30_encoding.md R72). -/
theorem operandWord_toNat (lo hi : Byte) : (operandWord lo hi).toNat = lo.toNat + 256 * hi.toNat := by
  simp only [operandWord, BitVec.toNat_append]
  rw [← Nat.shiftLeft_add_eq_or_of_lt lo.isLt, Nat.shiftLeft_eq]
  omega

@[simp] theorem lowByte_operandWord (lo hi : Byte) : lowByte (operandWord lo hi) = lo := by
  apply BitVec.eq_of_toNat_eq
  have := operandWord_toNat lo hi
  simp only [lowByte, BitVec.extractLsb'_toNat, Nat.shiftRight_zero, this]
  omega

@[simp] theorem highByte_operandWord (lo hi : Byte) : highByte (operandWord lo hi) = hi := by
  apply BitVec.eq_of_toNat_eq
  have := operandWord_toNat lo hi
  have := lo.isLt
  have := hi.isLt
  simp only [highByte, BitVec.extractLsb'_toNat, Nat.shiftRight_eq_div_pow, *]
  omega

end Sys2Proof
end

