-- ==== Sys2Proof/Laws/Memory.lean ====
section
/-! SUPPORT. What reading and writing memory do, and that a write keeps the canonical form. -/

namespace Sys2Proof.Machine

theorem Memory.read_erase (m : Memory) (a b : Nat) :
    (m.erase a).read b = if b = a then Memory.unlisted else m.read b := by
  induction m with
  | nil => simp [Memory.erase, Memory.read]
  | cons cell m ih =>
    obtain ⟨k, u⟩ := cell
    simp only [Memory.erase, Memory.read]
    split_ifs with hk hb hb <;> simp_all [Memory.read]

theorem Memory.read_insert (m : Memory) (a b : Nat) (v : Byte)
    (ha : ∀ c ∈ m, c.1 ≠ a) : (Memory.insert a v m).read b = if b = a then v else m.read b := by
  induction m with
  | nil => simp [Memory.insert, Memory.read, eq_comm]
  | cons cell m ih =>
    obtain ⟨k, u⟩ := cell
    have hk : k ≠ a := ha (k, u) (by simp)
    have ih := ih fun c hc => ha c (by simp [hc])
    simp only [Memory.insert]
    split_ifs with hlt hb hb
    · simp [Memory.read, hb]
    · simp [Memory.read, Ne.symm hb]
    · subst hb; simp [Memory.read, hk, ih]
    · simp [Memory.read, ih, hb]

theorem Memory.erase_no_cell (m : Memory) (a : Nat) : ∀ c ∈ m.erase a, c.1 ≠ a := by
  induction m with
  | nil => simp [Memory.erase]
  | cons cell m ih =>
    obtain ⟨k, u⟩ := cell
    simp only [Memory.erase]
    split_ifs with hk
    · exact ih
    · simpa [hk] using ih

/-- A read after a write: the byte written at that address, the byte that was there at any other. -/
theorem Memory.read_write (m : Memory) (a b : Nat) (v : Byte) :
    (m.write a v).read b = if b = a then v else m.read b := by
  simp only [Memory.write]
  split_ifs with hv hb hb
  · simp [Memory.read_erase, hb, hv]
  · simp [Memory.read_erase, hb]
  · simp [Memory.read_insert _ _ _ _ (m.erase_no_cell a), hb]
  · simp [Memory.read_insert _ _ _ _ (m.erase_no_cell a), Memory.read_erase, hb]

theorem Memory.wfFrom_mono {m : Memory} {lo lo' : Nat} (h : Memory.wfFrom lo m = true) (hle : lo' ≤ lo) :
    Memory.wfFrom lo' m = true := by
  cases m with
  | nil => rfl
  | cons cell m =>
    simp only [Memory.wfFrom, Bool.and_eq_true, decide_eq_true_eq] at h ⊢
    exact ⟨⟨⟨by omega, h.1.1.2⟩, h.1.2⟩, h.2⟩

theorem Memory.wfFrom_erase {m : Memory} {lo : Nat} (a : Nat) (h : Memory.wfFrom lo m = true) :
    Memory.wfFrom lo (m.erase a) = true := by
  induction m generalizing lo with
  | nil => rfl
  | cons cell m ih =>
    obtain ⟨k, u⟩ := cell
    simp only [Memory.wfFrom, Bool.and_eq_true, decide_eq_true_eq] at h
    simp only [Memory.erase]
    split_ifs with hk
    · exact Memory.wfFrom_mono (ih h.2) (by omega)
    · simp only [Memory.wfFrom, Bool.and_eq_true, decide_eq_true_eq]
      exact ⟨h.1, ih h.2⟩

theorem Memory.wfFrom_insert {m : Memory} {lo a : Nat} {v : Byte} (h : Memory.wfFrom lo m = true)
    (ha : ∀ c ∈ m, c.1 ≠ a) (hlo : lo ≤ a) (hsize : a < Memory.size) (hv : v ≠ Memory.unlisted) :
    Memory.wfFrom lo (Memory.insert a v m) = true := by
  induction m generalizing lo with
  | nil => simp [Memory.insert, Memory.wfFrom, hlo, hsize, hv]
  | cons cell m ih =>
    obtain ⟨k, u⟩ := cell
    have hk : k ≠ a := ha (k, u) (by simp)
    simp only [Memory.wfFrom, Bool.and_eq_true, decide_eq_true_eq] at h
    simp only [Memory.insert]
    split_ifs with hlt
    · simp only [Memory.wfFrom, Bool.and_eq_true, decide_eq_true_eq]
      exact ⟨⟨⟨hlo, hsize⟩, hv⟩, ⟨⟨by omega, h.1.1.2⟩, h.1.2⟩, h.2⟩
    · simp only [Memory.wfFrom, Bool.and_eq_true, decide_eq_true_eq]
      exact ⟨h.1, ih h.2 (fun c hc => ha c (by simp [hc])) (by omega)⟩

/-- A write at an address of the machine keeps the canonical form. -/
theorem Memory.wf_write {m : Memory} (a : Nat) (v : Byte) (h : m.wf = true) (ha : a < Memory.size) :
    (m.write a v).wf = true := by
  simp only [Memory.write, Memory.wf] at *
  split_ifs with hv
  · exact Memory.wfFrom_erase a h
  · exact Memory.wfFrom_insert (Memory.wfFrom_erase a h) (m.erase_no_cell a) (Nat.zero_le _) ha hv

end Sys2Proof.Machine
end

