-- ==== Sys2Proof/Laws/State.lean ====
section
/-! SUPPORT. One lemma per field per update of State, true by rfl, so that no later proof unfolds a record update. -/

namespace Sys2Proof.Machine

/-! ### `setA` -/

@[simp] theorem State.setA_a (v : Byte) (s : State) : (s.setA v).a = v := rfl
@[simp] theorem State.setA_x (v : Byte) (s : State) : (s.setA v).x = s.x := rfl
@[simp] theorem State.setA_y (v : Byte) (s : State) : (s.setA v).y = s.y := rfl
@[simp] theorem State.setA_sp (v : Byte) (s : State) : (s.setA v).sp = s.sp := rfl
@[simp] theorem State.setA_pc (v : Byte) (s : State) : (s.setA v).pc = s.pc := rfl
@[simp] theorem State.setA_n (v : Byte) (s : State) : (s.setA v).n = s.n := rfl
@[simp] theorem State.setA_v (v : Byte) (s : State) : (s.setA v).v = s.v := rfl
@[simp] theorem State.setA_d (v : Byte) (s : State) : (s.setA v).d = s.d := rfl
@[simp] theorem State.setA_i (v : Byte) (s : State) : (s.setA v).i = s.i := rfl
@[simp] theorem State.setA_z (v : Byte) (s : State) : (s.setA v).z = s.z := rfl
@[simp] theorem State.setA_c (v : Byte) (s : State) : (s.setA v).c = s.c := rfl
@[simp] theorem State.setA_mem (v : Byte) (s : State) : (s.setA v).mem = s.mem := rfl
@[simp] theorem State.setA_irqAsserted (v : Byte) (s : State) : (s.setA v).irqAsserted = s.irqAsserted := rfl
@[simp] theorem State.setA_nmiPending (v : Byte) (s : State) : (s.setA v).nmiPending = s.nmiPending := rfl
@[simp] theorem State.setA_cfg (v : Byte) (s : State) : (s.setA v).cfg = s.cfg := rfl

/-! ### `setX` -/

@[simp] theorem State.setX_a (v : Byte) (s : State) : (s.setX v).a = s.a := rfl
@[simp] theorem State.setX_x (v : Byte) (s : State) : (s.setX v).x = v := rfl
@[simp] theorem State.setX_y (v : Byte) (s : State) : (s.setX v).y = s.y := rfl
@[simp] theorem State.setX_sp (v : Byte) (s : State) : (s.setX v).sp = s.sp := rfl
@[simp] theorem State.setX_pc (v : Byte) (s : State) : (s.setX v).pc = s.pc := rfl
@[simp] theorem State.setX_n (v : Byte) (s : State) : (s.setX v).n = s.n := rfl
@[simp] theorem State.setX_v (v : Byte) (s : State) : (s.setX v).v = s.v := rfl
@[simp] theorem State.setX_d (v : Byte) (s : State) : (s.setX v).d = s.d := rfl
@[simp] theorem State.setX_i (v : Byte) (s : State) : (s.setX v).i = s.i := rfl
@[simp] theorem State.setX_z (v : Byte) (s : State) : (s.setX v).z = s.z := rfl
@[simp] theorem State.setX_c (v : Byte) (s : State) : (s.setX v).c = s.c := rfl
@[simp] theorem State.setX_mem (v : Byte) (s : State) : (s.setX v).mem = s.mem := rfl
@[simp] theorem State.setX_irqAsserted (v : Byte) (s : State) : (s.setX v).irqAsserted = s.irqAsserted := rfl
@[simp] theorem State.setX_nmiPending (v : Byte) (s : State) : (s.setX v).nmiPending = s.nmiPending := rfl
@[simp] theorem State.setX_cfg (v : Byte) (s : State) : (s.setX v).cfg = s.cfg := rfl

/-! ### `setY` -/

@[simp] theorem State.setY_a (v : Byte) (s : State) : (s.setY v).a = s.a := rfl
@[simp] theorem State.setY_x (v : Byte) (s : State) : (s.setY v).x = s.x := rfl
@[simp] theorem State.setY_y (v : Byte) (s : State) : (s.setY v).y = v := rfl
@[simp] theorem State.setY_sp (v : Byte) (s : State) : (s.setY v).sp = s.sp := rfl
@[simp] theorem State.setY_pc (v : Byte) (s : State) : (s.setY v).pc = s.pc := rfl
@[simp] theorem State.setY_n (v : Byte) (s : State) : (s.setY v).n = s.n := rfl
@[simp] theorem State.setY_v (v : Byte) (s : State) : (s.setY v).v = s.v := rfl
@[simp] theorem State.setY_d (v : Byte) (s : State) : (s.setY v).d = s.d := rfl
@[simp] theorem State.setY_i (v : Byte) (s : State) : (s.setY v).i = s.i := rfl
@[simp] theorem State.setY_z (v : Byte) (s : State) : (s.setY v).z = s.z := rfl
@[simp] theorem State.setY_c (v : Byte) (s : State) : (s.setY v).c = s.c := rfl
@[simp] theorem State.setY_mem (v : Byte) (s : State) : (s.setY v).mem = s.mem := rfl
@[simp] theorem State.setY_irqAsserted (v : Byte) (s : State) : (s.setY v).irqAsserted = s.irqAsserted := rfl
@[simp] theorem State.setY_nmiPending (v : Byte) (s : State) : (s.setY v).nmiPending = s.nmiPending := rfl
@[simp] theorem State.setY_cfg (v : Byte) (s : State) : (s.setY v).cfg = s.cfg := rfl

/-! ### `setSP` -/

@[simp] theorem State.setSP_a (v : Byte) (s : State) : (s.setSP v).a = s.a := rfl
@[simp] theorem State.setSP_x (v : Byte) (s : State) : (s.setSP v).x = s.x := rfl
@[simp] theorem State.setSP_y (v : Byte) (s : State) : (s.setSP v).y = s.y := rfl
@[simp] theorem State.setSP_sp (v : Byte) (s : State) : (s.setSP v).sp = v := rfl
@[simp] theorem State.setSP_pc (v : Byte) (s : State) : (s.setSP v).pc = s.pc := rfl
@[simp] theorem State.setSP_n (v : Byte) (s : State) : (s.setSP v).n = s.n := rfl
@[simp] theorem State.setSP_v (v : Byte) (s : State) : (s.setSP v).v = s.v := rfl
@[simp] theorem State.setSP_d (v : Byte) (s : State) : (s.setSP v).d = s.d := rfl
@[simp] theorem State.setSP_i (v : Byte) (s : State) : (s.setSP v).i = s.i := rfl
@[simp] theorem State.setSP_z (v : Byte) (s : State) : (s.setSP v).z = s.z := rfl
@[simp] theorem State.setSP_c (v : Byte) (s : State) : (s.setSP v).c = s.c := rfl
@[simp] theorem State.setSP_mem (v : Byte) (s : State) : (s.setSP v).mem = s.mem := rfl
@[simp] theorem State.setSP_irqAsserted (v : Byte) (s : State) : (s.setSP v).irqAsserted = s.irqAsserted := rfl
@[simp] theorem State.setSP_nmiPending (v : Byte) (s : State) : (s.setSP v).nmiPending = s.nmiPending := rfl
@[simp] theorem State.setSP_cfg (v : Byte) (s : State) : (s.setSP v).cfg = s.cfg := rfl

/-! ### `setPC` -/

@[simp] theorem State.setPC_a (w : Word) (s : State) : (s.setPC w).a = s.a := rfl
@[simp] theorem State.setPC_x (w : Word) (s : State) : (s.setPC w).x = s.x := rfl
@[simp] theorem State.setPC_y (w : Word) (s : State) : (s.setPC w).y = s.y := rfl
@[simp] theorem State.setPC_sp (w : Word) (s : State) : (s.setPC w).sp = s.sp := rfl
@[simp] theorem State.setPC_pc (w : Word) (s : State) : (s.setPC w).pc = w := rfl
@[simp] theorem State.setPC_n (w : Word) (s : State) : (s.setPC w).n = s.n := rfl
@[simp] theorem State.setPC_v (w : Word) (s : State) : (s.setPC w).v = s.v := rfl
@[simp] theorem State.setPC_d (w : Word) (s : State) : (s.setPC w).d = s.d := rfl
@[simp] theorem State.setPC_i (w : Word) (s : State) : (s.setPC w).i = s.i := rfl
@[simp] theorem State.setPC_z (w : Word) (s : State) : (s.setPC w).z = s.z := rfl
@[simp] theorem State.setPC_c (w : Word) (s : State) : (s.setPC w).c = s.c := rfl
@[simp] theorem State.setPC_mem (w : Word) (s : State) : (s.setPC w).mem = s.mem := rfl
@[simp] theorem State.setPC_irqAsserted (w : Word) (s : State) : (s.setPC w).irqAsserted = s.irqAsserted := rfl
@[simp] theorem State.setPC_nmiPending (w : Word) (s : State) : (s.setPC w).nmiPending = s.nmiPending := rfl
@[simp] theorem State.setPC_cfg (w : Word) (s : State) : (s.setPC w).cfg = s.cfg := rfl

/-! ### `setC` -/

@[simp] theorem State.setC_a (b : Bool) (s : State) : (s.setC b).a = s.a := rfl
@[simp] theorem State.setC_x (b : Bool) (s : State) : (s.setC b).x = s.x := rfl
@[simp] theorem State.setC_y (b : Bool) (s : State) : (s.setC b).y = s.y := rfl
@[simp] theorem State.setC_sp (b : Bool) (s : State) : (s.setC b).sp = s.sp := rfl
@[simp] theorem State.setC_pc (b : Bool) (s : State) : (s.setC b).pc = s.pc := rfl
@[simp] theorem State.setC_n (b : Bool) (s : State) : (s.setC b).n = s.n := rfl
@[simp] theorem State.setC_v (b : Bool) (s : State) : (s.setC b).v = s.v := rfl
@[simp] theorem State.setC_d (b : Bool) (s : State) : (s.setC b).d = s.d := rfl
@[simp] theorem State.setC_i (b : Bool) (s : State) : (s.setC b).i = s.i := rfl
@[simp] theorem State.setC_z (b : Bool) (s : State) : (s.setC b).z = s.z := rfl
@[simp] theorem State.setC_c (b : Bool) (s : State) : (s.setC b).c = b := rfl
@[simp] theorem State.setC_mem (b : Bool) (s : State) : (s.setC b).mem = s.mem := rfl
@[simp] theorem State.setC_irqAsserted (b : Bool) (s : State) : (s.setC b).irqAsserted = s.irqAsserted := rfl
@[simp] theorem State.setC_nmiPending (b : Bool) (s : State) : (s.setC b).nmiPending = s.nmiPending := rfl
@[simp] theorem State.setC_cfg (b : Bool) (s : State) : (s.setC b).cfg = s.cfg := rfl

/-! ### `setD` -/

@[simp] theorem State.setD_a (b : Bool) (s : State) : (s.setD b).a = s.a := rfl
@[simp] theorem State.setD_x (b : Bool) (s : State) : (s.setD b).x = s.x := rfl
@[simp] theorem State.setD_y (b : Bool) (s : State) : (s.setD b).y = s.y := rfl
@[simp] theorem State.setD_sp (b : Bool) (s : State) : (s.setD b).sp = s.sp := rfl
@[simp] theorem State.setD_pc (b : Bool) (s : State) : (s.setD b).pc = s.pc := rfl
@[simp] theorem State.setD_n (b : Bool) (s : State) : (s.setD b).n = s.n := rfl
@[simp] theorem State.setD_v (b : Bool) (s : State) : (s.setD b).v = s.v := rfl
@[simp] theorem State.setD_d (b : Bool) (s : State) : (s.setD b).d = b := rfl
@[simp] theorem State.setD_i (b : Bool) (s : State) : (s.setD b).i = s.i := rfl
@[simp] theorem State.setD_z (b : Bool) (s : State) : (s.setD b).z = s.z := rfl
@[simp] theorem State.setD_c (b : Bool) (s : State) : (s.setD b).c = s.c := rfl
@[simp] theorem State.setD_mem (b : Bool) (s : State) : (s.setD b).mem = s.mem := rfl
@[simp] theorem State.setD_irqAsserted (b : Bool) (s : State) : (s.setD b).irqAsserted = s.irqAsserted := rfl
@[simp] theorem State.setD_nmiPending (b : Bool) (s : State) : (s.setD b).nmiPending = s.nmiPending := rfl
@[simp] theorem State.setD_cfg (b : Bool) (s : State) : (s.setD b).cfg = s.cfg := rfl

/-! ### `setI` -/

@[simp] theorem State.setI_a (b : Bool) (s : State) : (s.setI b).a = s.a := rfl
@[simp] theorem State.setI_x (b : Bool) (s : State) : (s.setI b).x = s.x := rfl
@[simp] theorem State.setI_y (b : Bool) (s : State) : (s.setI b).y = s.y := rfl
@[simp] theorem State.setI_sp (b : Bool) (s : State) : (s.setI b).sp = s.sp := rfl
@[simp] theorem State.setI_pc (b : Bool) (s : State) : (s.setI b).pc = s.pc := rfl
@[simp] theorem State.setI_n (b : Bool) (s : State) : (s.setI b).n = s.n := rfl
@[simp] theorem State.setI_v (b : Bool) (s : State) : (s.setI b).v = s.v := rfl
@[simp] theorem State.setI_d (b : Bool) (s : State) : (s.setI b).d = s.d := rfl
@[simp] theorem State.setI_i (b : Bool) (s : State) : (s.setI b).i = b := rfl
@[simp] theorem State.setI_z (b : Bool) (s : State) : (s.setI b).z = s.z := rfl
@[simp] theorem State.setI_c (b : Bool) (s : State) : (s.setI b).c = s.c := rfl
@[simp] theorem State.setI_mem (b : Bool) (s : State) : (s.setI b).mem = s.mem := rfl
@[simp] theorem State.setI_irqAsserted (b : Bool) (s : State) : (s.setI b).irqAsserted = s.irqAsserted := rfl
@[simp] theorem State.setI_nmiPending (b : Bool) (s : State) : (s.setI b).nmiPending = s.nmiPending := rfl
@[simp] theorem State.setI_cfg (b : Bool) (s : State) : (s.setI b).cfg = s.cfg := rfl

/-! ### `setV` -/

@[simp] theorem State.setV_a (b : Bool) (s : State) : (s.setV b).a = s.a := rfl
@[simp] theorem State.setV_x (b : Bool) (s : State) : (s.setV b).x = s.x := rfl
@[simp] theorem State.setV_y (b : Bool) (s : State) : (s.setV b).y = s.y := rfl
@[simp] theorem State.setV_sp (b : Bool) (s : State) : (s.setV b).sp = s.sp := rfl
@[simp] theorem State.setV_pc (b : Bool) (s : State) : (s.setV b).pc = s.pc := rfl
@[simp] theorem State.setV_n (b : Bool) (s : State) : (s.setV b).n = s.n := rfl
@[simp] theorem State.setV_v (b : Bool) (s : State) : (s.setV b).v = b := rfl
@[simp] theorem State.setV_d (b : Bool) (s : State) : (s.setV b).d = s.d := rfl
@[simp] theorem State.setV_i (b : Bool) (s : State) : (s.setV b).i = s.i := rfl
@[simp] theorem State.setV_z (b : Bool) (s : State) : (s.setV b).z = s.z := rfl
@[simp] theorem State.setV_c (b : Bool) (s : State) : (s.setV b).c = s.c := rfl
@[simp] theorem State.setV_mem (b : Bool) (s : State) : (s.setV b).mem = s.mem := rfl
@[simp] theorem State.setV_irqAsserted (b : Bool) (s : State) : (s.setV b).irqAsserted = s.irqAsserted := rfl
@[simp] theorem State.setV_nmiPending (b : Bool) (s : State) : (s.setV b).nmiPending = s.nmiPending := rfl
@[simp] theorem State.setV_cfg (b : Bool) (s : State) : (s.setV b).cfg = s.cfg := rfl

/-! ### `setN` -/

@[simp] theorem State.setN_a (b : Bool) (s : State) : (s.setN b).a = s.a := rfl
@[simp] theorem State.setN_x (b : Bool) (s : State) : (s.setN b).x = s.x := rfl
@[simp] theorem State.setN_y (b : Bool) (s : State) : (s.setN b).y = s.y := rfl
@[simp] theorem State.setN_sp (b : Bool) (s : State) : (s.setN b).sp = s.sp := rfl
@[simp] theorem State.setN_pc (b : Bool) (s : State) : (s.setN b).pc = s.pc := rfl
@[simp] theorem State.setN_n (b : Bool) (s : State) : (s.setN b).n = b := rfl
@[simp] theorem State.setN_v (b : Bool) (s : State) : (s.setN b).v = s.v := rfl
@[simp] theorem State.setN_d (b : Bool) (s : State) : (s.setN b).d = s.d := rfl
@[simp] theorem State.setN_i (b : Bool) (s : State) : (s.setN b).i = s.i := rfl
@[simp] theorem State.setN_z (b : Bool) (s : State) : (s.setN b).z = s.z := rfl
@[simp] theorem State.setN_c (b : Bool) (s : State) : (s.setN b).c = s.c := rfl
@[simp] theorem State.setN_mem (b : Bool) (s : State) : (s.setN b).mem = s.mem := rfl
@[simp] theorem State.setN_irqAsserted (b : Bool) (s : State) : (s.setN b).irqAsserted = s.irqAsserted := rfl
@[simp] theorem State.setN_nmiPending (b : Bool) (s : State) : (s.setN b).nmiPending = s.nmiPending := rfl
@[simp] theorem State.setN_cfg (b : Bool) (s : State) : (s.setN b).cfg = s.cfg := rfl

/-! ### `setZ` -/

@[simp] theorem State.setZ_a (b : Bool) (s : State) : (s.setZ b).a = s.a := rfl
@[simp] theorem State.setZ_x (b : Bool) (s : State) : (s.setZ b).x = s.x := rfl
@[simp] theorem State.setZ_y (b : Bool) (s : State) : (s.setZ b).y = s.y := rfl
@[simp] theorem State.setZ_sp (b : Bool) (s : State) : (s.setZ b).sp = s.sp := rfl
@[simp] theorem State.setZ_pc (b : Bool) (s : State) : (s.setZ b).pc = s.pc := rfl
@[simp] theorem State.setZ_n (b : Bool) (s : State) : (s.setZ b).n = s.n := rfl
@[simp] theorem State.setZ_v (b : Bool) (s : State) : (s.setZ b).v = s.v := rfl
@[simp] theorem State.setZ_d (b : Bool) (s : State) : (s.setZ b).d = s.d := rfl
@[simp] theorem State.setZ_i (b : Bool) (s : State) : (s.setZ b).i = s.i := rfl
@[simp] theorem State.setZ_z (b : Bool) (s : State) : (s.setZ b).z = b := rfl
@[simp] theorem State.setZ_c (b : Bool) (s : State) : (s.setZ b).c = s.c := rfl
@[simp] theorem State.setZ_mem (b : Bool) (s : State) : (s.setZ b).mem = s.mem := rfl
@[simp] theorem State.setZ_irqAsserted (b : Bool) (s : State) : (s.setZ b).irqAsserted = s.irqAsserted := rfl
@[simp] theorem State.setZ_nmiPending (b : Bool) (s : State) : (s.setZ b).nmiPending = s.nmiPending := rfl
@[simp] theorem State.setZ_cfg (b : Bool) (s : State) : (s.setZ b).cfg = s.cfg := rfl

/-! ### `setNmi` -/

@[simp] theorem State.setNmi_a (b : Bool) (s : State) : (s.setNmi b).a = s.a := rfl
@[simp] theorem State.setNmi_x (b : Bool) (s : State) : (s.setNmi b).x = s.x := rfl
@[simp] theorem State.setNmi_y (b : Bool) (s : State) : (s.setNmi b).y = s.y := rfl
@[simp] theorem State.setNmi_sp (b : Bool) (s : State) : (s.setNmi b).sp = s.sp := rfl
@[simp] theorem State.setNmi_pc (b : Bool) (s : State) : (s.setNmi b).pc = s.pc := rfl
@[simp] theorem State.setNmi_n (b : Bool) (s : State) : (s.setNmi b).n = s.n := rfl
@[simp] theorem State.setNmi_v (b : Bool) (s : State) : (s.setNmi b).v = s.v := rfl
@[simp] theorem State.setNmi_d (b : Bool) (s : State) : (s.setNmi b).d = s.d := rfl
@[simp] theorem State.setNmi_i (b : Bool) (s : State) : (s.setNmi b).i = s.i := rfl
@[simp] theorem State.setNmi_z (b : Bool) (s : State) : (s.setNmi b).z = s.z := rfl
@[simp] theorem State.setNmi_c (b : Bool) (s : State) : (s.setNmi b).c = s.c := rfl
@[simp] theorem State.setNmi_mem (b : Bool) (s : State) : (s.setNmi b).mem = s.mem := rfl
@[simp] theorem State.setNmi_irqAsserted (b : Bool) (s : State) : (s.setNmi b).irqAsserted = s.irqAsserted := rfl
@[simp] theorem State.setNmi_nmiPending (b : Bool) (s : State) : (s.setNmi b).nmiPending = b := rfl
@[simp] theorem State.setNmi_cfg (b : Bool) (s : State) : (s.setNmi b).cfg = s.cfg := rfl

/-! ### `setNZ` -/

@[simp] theorem State.setNZ_a (r : Byte) (s : State) : (s.setNZ r).a = s.a := rfl
@[simp] theorem State.setNZ_x (r : Byte) (s : State) : (s.setNZ r).x = s.x := rfl
@[simp] theorem State.setNZ_y (r : Byte) (s : State) : (s.setNZ r).y = s.y := rfl
@[simp] theorem State.setNZ_sp (r : Byte) (s : State) : (s.setNZ r).sp = s.sp := rfl
@[simp] theorem State.setNZ_pc (r : Byte) (s : State) : (s.setNZ r).pc = s.pc := rfl
@[simp] theorem State.setNZ_n (r : Byte) (s : State) : (s.setNZ r).n = negativeFlag r := rfl
@[simp] theorem State.setNZ_v (r : Byte) (s : State) : (s.setNZ r).v = s.v := rfl
@[simp] theorem State.setNZ_d (r : Byte) (s : State) : (s.setNZ r).d = s.d := rfl
@[simp] theorem State.setNZ_i (r : Byte) (s : State) : (s.setNZ r).i = s.i := rfl
@[simp] theorem State.setNZ_z (r : Byte) (s : State) : (s.setNZ r).z = zeroFlag r := rfl
@[simp] theorem State.setNZ_c (r : Byte) (s : State) : (s.setNZ r).c = s.c := rfl
@[simp] theorem State.setNZ_mem (r : Byte) (s : State) : (s.setNZ r).mem = s.mem := rfl
@[simp] theorem State.setNZ_irqAsserted (r : Byte) (s : State) : (s.setNZ r).irqAsserted = s.irqAsserted := rfl
@[simp] theorem State.setNZ_nmiPending (r : Byte) (s : State) : (s.setNZ r).nmiPending = s.nmiPending := rfl
@[simp] theorem State.setNZ_cfg (r : Byte) (s : State) : (s.setNZ r).cfg = s.cfg := rfl

/-! ### `setSR` -/

@[simp] theorem State.setSR_a (v : Byte) (s : State) : (s.setSR v).a = s.a := rfl
@[simp] theorem State.setSR_x (v : Byte) (s : State) : (s.setSR v).x = s.x := rfl
@[simp] theorem State.setSR_y (v : Byte) (s : State) : (s.setSR v).y = s.y := rfl
@[simp] theorem State.setSR_sp (v : Byte) (s : State) : (s.setSR v).sp = s.sp := rfl
@[simp] theorem State.setSR_pc (v : Byte) (s : State) : (s.setSR v).pc = s.pc := rfl
@[simp] theorem State.setSR_n (v : Byte) (s : State) : (s.setSR v).n = v.getLsbD 7 := rfl
@[simp] theorem State.setSR_v (v : Byte) (s : State) : (s.setSR v).v = v.getLsbD 6 := rfl
@[simp] theorem State.setSR_d (v : Byte) (s : State) : (s.setSR v).d = v.getLsbD 3 := rfl
@[simp] theorem State.setSR_i (v : Byte) (s : State) : (s.setSR v).i = v.getLsbD 2 := rfl
@[simp] theorem State.setSR_z (v : Byte) (s : State) : (s.setSR v).z = v.getLsbD 1 := rfl
@[simp] theorem State.setSR_c (v : Byte) (s : State) : (s.setSR v).c = v.getLsbD 0 := rfl
@[simp] theorem State.setSR_mem (v : Byte) (s : State) : (s.setSR v).mem = s.mem := rfl
@[simp] theorem State.setSR_irqAsserted (v : Byte) (s : State) : (s.setSR v).irqAsserted = s.irqAsserted := rfl
@[simp] theorem State.setSR_nmiPending (v : Byte) (s : State) : (s.setSR v).nmiPending = s.nmiPending := rfl
@[simp] theorem State.setSR_cfg (v : Byte) (s : State) : (s.setSR v).cfg = s.cfg := rfl

/-! ### `setArith` -/

@[simp] theorem State.setArith_a (r : ArithResult) (s : State) : (s.setArith r).a = r.r := rfl
@[simp] theorem State.setArith_x (r : ArithResult) (s : State) : (s.setArith r).x = s.x := rfl
@[simp] theorem State.setArith_y (r : ArithResult) (s : State) : (s.setArith r).y = s.y := rfl
@[simp] theorem State.setArith_sp (r : ArithResult) (s : State) : (s.setArith r).sp = s.sp := rfl
@[simp] theorem State.setArith_pc (r : ArithResult) (s : State) : (s.setArith r).pc = s.pc := rfl
@[simp] theorem State.setArith_n (r : ArithResult) (s : State) : (s.setArith r).n = r.n := rfl
@[simp] theorem State.setArith_v (r : ArithResult) (s : State) : (s.setArith r).v = r.v := rfl
@[simp] theorem State.setArith_d (r : ArithResult) (s : State) : (s.setArith r).d = s.d := rfl
@[simp] theorem State.setArith_i (r : ArithResult) (s : State) : (s.setArith r).i = s.i := rfl
@[simp] theorem State.setArith_z (r : ArithResult) (s : State) : (s.setArith r).z = r.z := rfl
@[simp] theorem State.setArith_c (r : ArithResult) (s : State) : (s.setArith r).c = r.c := rfl
@[simp] theorem State.setArith_mem (r : ArithResult) (s : State) : (s.setArith r).mem = s.mem := rfl
@[simp] theorem State.setArith_irqAsserted (r : ArithResult) (s : State) : (s.setArith r).irqAsserted = s.irqAsserted := rfl
@[simp] theorem State.setArith_nmiPending (r : ArithResult) (s : State) : (s.setArith r).nmiPending = s.nmiPending := rfl
@[simp] theorem State.setArith_cfg (r : ArithResult) (s : State) : (s.setArith r).cfg = s.cfg := rfl

/-! ### `advance` -/

@[simp] theorem State.advance_a (o : Operand) (s : State) : (s.advance o).a = s.a := rfl
@[simp] theorem State.advance_x (o : Operand) (s : State) : (s.advance o).x = s.x := rfl
@[simp] theorem State.advance_y (o : Operand) (s : State) : (s.advance o).y = s.y := rfl
@[simp] theorem State.advance_sp (o : Operand) (s : State) : (s.advance o).sp = s.sp := rfl
@[simp] theorem State.advance_pc (o : Operand) (s : State) : (s.advance o).pc = s.pc + BitVec.ofNat 16 o.mode.length := rfl
@[simp] theorem State.advance_n (o : Operand) (s : State) : (s.advance o).n = s.n := rfl
@[simp] theorem State.advance_v (o : Operand) (s : State) : (s.advance o).v = s.v := rfl
@[simp] theorem State.advance_d (o : Operand) (s : State) : (s.advance o).d = s.d := rfl
@[simp] theorem State.advance_i (o : Operand) (s : State) : (s.advance o).i = s.i := rfl
@[simp] theorem State.advance_z (o : Operand) (s : State) : (s.advance o).z = s.z := rfl
@[simp] theorem State.advance_c (o : Operand) (s : State) : (s.advance o).c = s.c := rfl
@[simp] theorem State.advance_mem (o : Operand) (s : State) : (s.advance o).mem = s.mem := rfl
@[simp] theorem State.advance_irqAsserted (o : Operand) (s : State) : (s.advance o).irqAsserted = s.irqAsserted := rfl
@[simp] theorem State.advance_nmiPending (o : Operand) (s : State) : (s.advance o).nmiPending = s.nmiPending := rfl
@[simp] theorem State.advance_cfg (o : Operand) (s : State) : (s.advance o).cfg = s.cfg := rfl

end Sys2Proof.Machine
end

