-- ==== Sys2Proof/Laws/Ops.lean ====
section
/-! SUPPORT. For each shared operation over memory, the stack and the interrupt entry, what it does, so that it need not be
unfolded. -/

namespace Sys2Proof.Machine

/-! ### The registers a memory write leaves alone, field by field -/

@[simp] theorem State.writeByte_a (w : Word) (b : Byte) (s : State) : (s.writeByte w b).a = s.a := by
  simp only [State.writeByte]; split <;> rfl
@[simp] theorem State.writeByte_x (w : Word) (b : Byte) (s : State) : (s.writeByte w b).x = s.x := by
  simp only [State.writeByte]; split <;> rfl
@[simp] theorem State.writeByte_y (w : Word) (b : Byte) (s : State) : (s.writeByte w b).y = s.y := by
  simp only [State.writeByte]; split <;> rfl
@[simp] theorem State.writeByte_sp (w : Word) (b : Byte) (s : State) : (s.writeByte w b).sp = s.sp := by
  simp only [State.writeByte]; split <;> rfl
@[simp] theorem State.writeByte_pc (w : Word) (b : Byte) (s : State) : (s.writeByte w b).pc = s.pc := by
  simp only [State.writeByte]; split <;> rfl
@[simp] theorem State.writeByte_n (w : Word) (b : Byte) (s : State) : (s.writeByte w b).n = s.n := by
  simp only [State.writeByte]; split <;> rfl
@[simp] theorem State.writeByte_v (w : Word) (b : Byte) (s : State) : (s.writeByte w b).v = s.v := by
  simp only [State.writeByte]; split <;> rfl
@[simp] theorem State.writeByte_d (w : Word) (b : Byte) (s : State) : (s.writeByte w b).d = s.d := by
  simp only [State.writeByte]; split <;> rfl
@[simp] theorem State.writeByte_i (w : Word) (b : Byte) (s : State) : (s.writeByte w b).i = s.i := by
  simp only [State.writeByte]; split <;> rfl
@[simp] theorem State.writeByte_z (w : Word) (b : Byte) (s : State) : (s.writeByte w b).z = s.z := by
  simp only [State.writeByte]; split <;> rfl
@[simp] theorem State.writeByte_c (w : Word) (b : Byte) (s : State) : (s.writeByte w b).c = s.c := by
  simp only [State.writeByte]; split <;> rfl
@[simp] theorem State.writeByte_irqAsserted (w : Word) (b : Byte) (s : State) :
    (s.writeByte w b).irqAsserted = s.irqAsserted := by
  simp only [State.writeByte]; split <;> rfl
@[simp] theorem State.writeByte_nmiPending (w : Word) (b : Byte) (s : State) :
    (s.writeByte w b).nmiPending = s.nmiPending := by
  simp only [State.writeByte]; split <;> rfl
@[simp] theorem State.writeByte_cfg (w : Word) (b : Byte) (s : State) : (s.writeByte w b).cfg = s.cfg := by
  simp only [State.writeByte]; split <;> rfl

/-- Everything a memory write can do: it changes the memory alone, and that only where the address is RAM. -/
theorem State.writeByte_eq (w : Word) (b : Byte) (s : State) :
    s.writeByte w b = { s with mem := if s.cfg.kindAt w.toNat = .ram then s.mem.write w.toNat b else s.mem } := by
  simp only [State.writeByte]
  split <;> simp_all

/-- What a byte reads as depends on the memory and the configuration alone. -/
theorem State.readByte_congr {s t : State} (hm : t.mem = s.mem) (hc : t.cfg = s.cfg) (w : Word) :
    t.readByte w = s.readByte w := by
  simp only [State.readByte, hm, hc]

/-- A write keeps the canonical form of memory. -/
theorem State.writeByte_wf {s : State} (w : Word) (b : Byte) (h : s.mem.wf = true) : (s.writeByte w b).mem.wf = true := by
  rw [State.writeByte_eq]
  dsimp only
  split_ifs
  · exact Memory.wf_write _ _ h w.isLt
  · exact h

/-! ### The stack -/

/-- Stack bytes of different pointer values lie at different addresses. -/
theorem stackAddress_toNat (p : Byte) : (stackAddress p).toNat = 256 + p.toNat := by
  have := p.isLt
  simp only [stackAddress, Config.stackBase]
  bv_omega

theorem stackAddress_injective : Function.Injective stackAddress := by
  intro p q h
  have := congrArg BitVec.toNat h
  simp only [stackAddress_toNat] at this
  exact BitVec.eq_of_toNat_eq (by omega)

/-- Everything a push can do: the memory is written at the stack byte SP names, and SP goes down by one. -/
theorem State.push_eq (b : Byte) (s : State) :
    s.push b = { s with mem := (s.writeByte (stackAddress s.sp) b).mem, sp := s.sp - 1 } := by
  simp only [State.push, State.setSP, State.writeByte_eq]

/-- A push keeps the canonical form of memory. -/
theorem State.push_wf {s : State} (b : Byte) (h : s.mem.wf = true) : (s.push b).mem.wf = true :=
  State.writeByte_wf _ _ h

/-- Everything a pull can do: SP goes up by one, and nothing else changes. -/
theorem State.pull_snd (s : State) : s.pull.2 = { s with sp := s.sp + 1 } := rfl

theorem State.pull_fst (s : State) : s.pull.1 = s.readByte (stackAddress (s.sp + 1)) := rfl

/-- Pushing a word keeps the canonical form of memory. -/
theorem State.push16_wf {s : State} (w : Word) (h : s.mem.wf = true) : (s.push16 w).mem.wf = true :=
  State.push_wf _ (State.push_wf _ h)

/-- Everything pushing a word can do: memory changes and SP goes down by two. -/
theorem State.push16_eq (w : Word) (s : State) :
    s.push16 w = { s with mem := (s.push16 w).mem, sp := s.sp - 2 } := by
  simp only [State.push16, State.push_eq]
  congr 1
  bv_omega

/-! ### Interrupt entry and return -/

/-- Everything handler entry can do to the registers: SP goes down by three, I is set, PC comes from the vector. -/
theorem State.enterHandler_eq (ret vector : Word) (b : Bool) (s : State) :
    s.enterHandler ret vector b =
      { s with
        mem := (s.enterHandler ret vector b).mem, sp := s.sp - 3, i := true
        pc := (s.enterHandler ret vector b).pc } := by
  simp only [State.enterHandler, State.setI, State.setPC, State.push_eq, State.push16]
  congr 1
  bv_omega

/-- Handler entry keeps the canonical form of memory. -/
theorem State.enterHandler_wf {s : State} (ret vector : Word) (b : Bool) (h : s.mem.wf = true) :
    (s.enterHandler ret vector b).mem.wf = true :=
  State.push_wf _ (State.push16_wf _ h)

/-- The return from a handler writes no memory and moves SP up by three. -/
theorem State.leaveHandler_mem (s : State) : s.leaveHandler.mem = s.mem := rfl

theorem State.leaveHandler_sp (s : State) : s.leaveHandler.sp = s.sp + 3 := by
  change s.sp + 1 + 1 + 1 = s.sp + 3
  bv_omega

/-- The interrupt entry a step takes, if it takes one, is the NMI's or the IRQ's. -/
theorem State.pendingEntry_cases {s t : State} (h : s.pendingEntry = some t) :
    (s.nmiPending = true ∧ t = s.takeNmi) ∨
    (s.nmiPending = false ∧ s.irqAsserted = true ∧ s.i = false ∧ t = s.takeIrq) := by
  simp only [State.pendingEntry] at h
  split_ifs at h with hn hi
  · exact .inl ⟨hn, by simpa using h.symm⟩
  · simp only [Bool.and_eq_true, Bool.not_eq_true'] at hi
    exact .inr ⟨by simpa using hn, hi.1, hi.2, by simpa using h.symm⟩

/-- Loading bytes from outside changes the memory alone. -/
theorem State.load_eq (w : Word) (bs : List Byte) (s : State) : s.load w bs = { s with mem := (s.load w bs).mem } := by
  induction bs generalizing w s with
  | nil => rfl
  | cons b bs ih =>
    rw [State.load, ih]

/-- Loading bytes keeps the canonical form of memory. -/
theorem State.load_wf (w : Word) (bs : List Byte) {s : State} (h : s.mem.wf = true) : (s.load w bs).mem.wf = true := by
  induction bs generalizing w s with
  | nil => exact h
  | cons b bs ih => exact ih (w + 1) (Memory.wf_write _ _ h w.isLt)

end Sys2Proof.Machine
end

