-- ==== Sys2Proof/Laws/Operands.lean ====
section
/-! SUPPORT. What forming an address, loading an operand and storing one can do. -/

namespace Sys2Proof.Machine

/-- A byte of memory reads as before in a state that differs in registers and flags alone, so addresses formed through memory
do too. -/
theorem State.zeroPagePointer_congr {s t : State} (hm : t.mem = s.mem) (hc : t.cfg = s.cfg) (p : Byte) :
    t.zeroPagePointer p = s.zeroPagePointer p := by
  simp only [State.zeroPagePointer, State.readByte_congr hm hc]

/-- The effective address depends on X, Y, PC, the memory and the configuration alone. -/
theorem State.effectiveAddress_congr {s t : State} (hx : t.x = s.x) (hy : t.y = s.y) (hp : t.pc = s.pc)
    (hm : t.mem = s.mem) (hc : t.cfg = s.cfg) (o : Operand) : t.effectiveAddress o = s.effectiveAddress o := by
  cases o <;>
    simp only [State.effectiveAddress, State.jumpPointer, hx, hy, hp, hc, State.zeroPagePointer_congr hm hc,
      State.readByte_congr hm hc]

/-- A memory operand is the byte at its effective address. -/
theorem State.loadOperand_of_address {s : State} {o : Operand} {ea : Word} (h : s.effectiveAddress o = some ea) :
    s.loadOperand o = s.readByte ea := by
  cases o <;> simp_all [State.effectiveAddress, State.loadOperand]

/-- Everything storing an operand can do: A is written in accumulator mode, the byte at the effective address where one is
formed, nothing in the other modes. -/
theorem State.storeOperand_eq (o : Operand) (b : Byte) (s : State) :
    s.storeOperand o b =
      if o = .accumulator then s.setA b
      else match s.effectiveAddress o with
        | some ea => s.writeByte ea b
        | none => s := by
  cases o <;> rfl

/-- Storing an operand keeps the canonical form of memory. -/
theorem State.storeOperand_wf {s : State} (o : Operand) (b : Byte) (h : s.mem.wf = true) :
    (s.storeOperand o b).mem.wf = true := by
  rw [State.storeOperand_eq]
  split_ifs
  · exact h
  · split
    · exact State.writeByte_wf _ _ h
    · exact h

/-- Storing an operand never writes the configuration or the interrupt inputs. -/
theorem State.storeOperand_frame (o : Operand) (b : Byte) (s : State) :
    (s.storeOperand o b).cfg = s.cfg ∧ (s.storeOperand o b).irqAsserted = s.irqAsserted ∧
      (s.storeOperand o b).nmiPending = s.nmiPending ∧ (s.storeOperand o b).pc = s.pc ∧
      (s.storeOperand o b).sp = s.sp := by
  rw [State.storeOperand_eq]
  split_ifs
  · simp
  · split <;> simp

end Sys2Proof.Machine
end

