-- ==== Sys2Proof/Laws/Families.lean ====
section
/-! SUPPORT. For each operation the instructions of a family share, the state it answers as one record. -/

namespace Sys2Proof.Machine

theorem opLda_eq (o : Operand) (s : State) :
    opLda o s = { s with
      a := s.loadOperand o, n := negativeFlag (s.loadOperand o), z := zeroFlag (s.loadOperand o)
      pc := s.pc + BitVec.ofNat 16 o.mode.length } := rfl

theorem opLdx_eq (o : Operand) (s : State) :
    opLdx o s = { s with
      x := s.loadOperand o, n := negativeFlag (s.loadOperand o), z := zeroFlag (s.loadOperand o)
      pc := s.pc + BitVec.ofNat 16 o.mode.length } := rfl

theorem opLdy_eq (o : Operand) (s : State) :
    opLdy o s = { s with
      y := s.loadOperand o, n := negativeFlag (s.loadOperand o), z := zeroFlag (s.loadOperand o)
      pc := s.pc + BitVec.ofNat 16 o.mode.length } := rfl

/-- A store through an address writes the one byte there and moves PC on. -/
theorem opStore_eq {o : Operand} {s : State} {ea : Word} (b : Byte) (h : s.effectiveAddress o = some ea) :
    opStore o b s = (s.writeByte ea b).advance o := by
  cases o <;> simp_all [opStore, State.storeOperand, State.effectiveAddress]

/-- DEC and INC write the changed byte where it was read, and N and Z from it. -/
theorem opStep_eq {o : Operand} {s : State} {ea : Word} (f : Byte → Byte) (h : s.effectiveAddress o = some ea) :
    opStep f o s = ((s.writeByte ea (f (s.readByte ea))).setNZ (f (s.readByte ea))).advance o := by
  cases o <;> simp_all [opStep, State.storeOperand, State.loadOperand, State.effectiveAddress]

theorem opAdc_binary (o : Operand) {s : State} (h : s.d = false) :
    opAdc o s = (s.setArith (adcBinary s.a (s.loadOperand o) s.c)).advance o := by simp [opAdc, h]

theorem opAdc_decimal (o : Operand) {s : State} (h : s.d = true) :
    opAdc o s = (s.setArith (Config.decimalAdc s.a (s.loadOperand o) s.c)).advance o := by simp [opAdc, h]

theorem opSbc_binary (o : Operand) {s : State} (h : s.d = false) :
    opSbc o s = (s.setArith (sbcBinary s.a (s.loadOperand o) s.c)).advance o := by simp [opSbc, h]

theorem opSbc_decimal (o : Operand) {s : State} (h : s.d = true) :
    opSbc o s = (s.setArith (Config.decimalSbc s.a (s.loadOperand o) s.c)).advance o := by simp [opSbc, h]

theorem opLogic_eq (f : Byte → Byte → Byte) (o : Operand) (s : State) :
    opLogic f o s = { s with
      a := f s.a (s.loadOperand o), n := negativeFlag (f s.a (s.loadOperand o)), z := zeroFlag (f s.a (s.loadOperand o))
      pc := s.pc + BitVec.ofNat 16 o.mode.length } := rfl

/-- A shift in accumulator mode: A, N, Z, C and PC are written. -/
theorem opShift_accumulator (f : Byte → Bool → ShiftResult) (s : State) :
    opShift f .accumulator s = { s with
      a := (f s.a s.c).r, n := negativeFlag (f s.a s.c).r, z := zeroFlag (f s.a s.c).r, c := (f s.a s.c).c
      pc := s.pc + BitVec.ofNat 16 1 } := rfl

/-- A shift through an address: the byte there, N, Z, C and PC are written. -/
theorem opShift_address {o : Operand} {s : State} {ea : Word} (f : Byte → Bool → ShiftResult)
    (h : s.effectiveAddress o = some ea) :
    opShift f o s =
      (((s.writeByte ea (f (s.readByte ea) s.c).r).setC (f (s.readByte ea) s.c).c).setNZ
        (f (s.readByte ea) s.c).r).advance o := by
  have hc : ∀ b, ((s.setC b).writeByte ea (f (s.readByte ea) s.c).r) =
      (s.writeByte ea (f (s.readByte ea) s.c).r).setC b := by
    intro b; simp only [State.writeByte_eq, State.setC]
  have he : ∀ b, (s.setC b).effectiveAddress o = some ea := fun b =>
    (State.effectiveAddress_congr (s := s) (t := s.setC b) rfl rfl rfl rfl rfl o).trans h
  have hl := State.loadOperand_of_address h
  have ha : o ≠ .accumulator := by rintro rfl; simp [State.effectiveAddress] at h
  simp only [opShift, hl, State.storeOperand_eq, ha, if_false, he, hc]

theorem opCompare_eq (reg : Byte) (o : Operand) (s : State) :
    opCompare reg o s = { s with
      n := negativeFlag (compareDifference reg (s.loadOperand o)), z := compareZero reg (s.loadOperand o)
      c := compareCarry reg (s.loadOperand o), pc := s.pc + BitVec.ofNat 16 o.mode.length } := rfl

/-- A branch writes PC alone. -/
theorem opBranch_eq (cond : Bool) (b : Byte) (s : State) :
    opBranch cond b s = { s with pc := if cond then branchTarget s.pc b else s.pc + 2 } := by
  cases cond <;> rfl

theorem opJump_eq {o : Operand} {s : State} {target : Word} (h : s.effectiveAddress o = some target) :
    opJump o s = s.setPC target := by
  simp only [opJump, h]

theorem opBit_eq (o : Operand) (s : State) :
    opBit o s = { s with
      n := (s.loadOperand o).getLsbD 7, v := (s.loadOperand o).getLsbD 6, z := zeroFlag (s.a &&& s.loadOperand o)
      pc := s.pc + BitVec.ofNat 16 o.mode.length } := rfl

end Sys2Proof.Machine
end

