-- ==== Sys2Proof/Tests/Slice0.lean ====
section
/-! SUPPORT. The model's own tests. `test_decode_*`: every opcode, written out from the 16 by 16 map of 30_encoding.md R76,
decodes to its instruction. `test_<id>`: the vector of that id of spec/95_test_vectors.md, one step. `witness_*`: a concrete
state and operands that meet the hypotheses of an obligation together. -/

open Sys2Proof Sys2Proof.Machine

/-! ### Helpers -/

/-- The default start state of spec/95_test_vectors.md part 2. -/
def Sys2Proof.Tests.start : State := { State.reset with sp := 0xFF, pc := 0x0600, i := false }

/-- The default configuration with `JMP_IND_PAGE_WRAP` false (30_encoding.md R93). -/
def Sys2Proof.Tests.wrapOff : Config := { Config.default with jmpIndPageWrap := false }

/-- A map with ROM at `$C000` to `$FFFF`, and nothing at `$8000` to `$80FF`, where reads give `$EE` (20_memory.md R51). -/
def Sys2Proof.Tests.romAndHole : Config :=
  { Config.default with
    memMap :=
      [{ base := 0xC000, size := 0x4000, kind := .rom }, { base := 0x8000, size := 0x0100, kind := .unpopulated 0xEE }] }

/-- `s` with the given cells of memory, and the given bytes at PC. -/
def Sys2Proof.Tests.placed (bytes : List Byte) (cells : List (Word × Byte)) (s : State) : State :=
  (cells.foldl (fun t c => t.load c.1 [c.2]) s).load s.pc bytes

/-- The state one step after that, or `s` where the step does not go on. -/
def Sys2Proof.Tests.after (bytes : List Byte) (cells : List (Word × Byte)) (s : State) : State :=
  match step (Sys2Proof.Tests.placed bytes cells s) with
  | .next t => t
  | .fault _ => s
  | .refused _ => s

/-- A, X, Y, SP, PC, and the flags in the order N V D I Z C, as the vectors write them. -/
def Sys2Proof.Tests.view (t : State) : Byte × Byte × Byte × Byte × Word × Nat :=
  (t.a, t.x, t.y, t.sp, t.pc,
    t.n.toNat * 32 + t.v.toNat * 16 + t.d.toNat * 8 + t.i.toNat * 4 + t.z.toNat * 2 + t.c.toNat)

open Sys2Proof.Tests

/-! ### Well-formedness refuses the pairs the table does not list (30_encoding.md R75, R80) -/

theorem test_sta_immediate_is_ill_formed : wellFormedPair .sta (.immediate 0x12) = false := by decide
theorem test_stx_absoluteY_is_ill_formed : wellFormedPair .stx (.absoluteY 0x1234) = false := by decide
theorem test_sty_absoluteX_is_ill_formed : wellFormedPair .sty (.absoluteX 0x1234) = false := by decide
theorem test_ldx_zeropageX_is_ill_formed : wellFormedPair .ldx (.zeropageX 0x12) = false := by decide
theorem test_bit_immediate_is_ill_formed : wellFormedPair .bit (.immediate 0x12) = false := by decide
theorem test_jsr_indirect_is_ill_formed : wellFormedPair .jsr (.indirect 0x1234) = false := by decide
theorem test_bcc_absolute_is_ill_formed : wellFormedPair .bcc (.absolute 0x1234) = false := by decide
theorem test_inc_accumulator_is_ill_formed : wellFormedPair .inc .accumulator = false := by decide
theorem test_asl_absoluteY_is_ill_formed : wellFormedPair .asl (.absoluteY 0x1234) = false := by decide
theorem test_cpx_zeropageX_is_ill_formed : wellFormedPair .cpx (.zeropageX 0x12) = false := by decide
theorem test_adc_zeropageY_is_ill_formed : wellFormedPair .adc (.zeropageY 0x12) = false := by decide
theorem test_nop_relative_is_ill_formed : wellFormedPair .nop (.relative 0x12) = false := by decide
theorem test_lda_implied_is_ill_formed : wellFormedPair .lda .implied = false := by decide
theorem test_lda_indirect_is_ill_formed : wellFormedPair .lda (.indirect 0x1234) = false := by decide
theorem test_lda_indirectX_is_well_formed : wellFormedPair .lda (.indirectX 0x12) = true := by decide

/-! ### Decoding: the 151 opcodes of the map of 30_encoding.md R76, operand bytes `$34` and then `$12` -/

theorem test_decode_ADC :
    decode [0x61, 0x34, 0x12] = .ok (.adcIndX 0x34) [0x12] ∧
    decode [0x65, 0x34, 0x12] = .ok (.adcZp 0x34) [0x12] ∧
    decode [0x69, 0x34, 0x12] = .ok (.adcImm 0x34) [0x12] ∧
    decode [0x6D, 0x34, 0x12] = .ok (.adcAbs 0x1234) [] ∧
    decode [0x71, 0x34, 0x12] = .ok (.adcIndY 0x34) [0x12] ∧
    decode [0x75, 0x34, 0x12] = .ok (.adcZpX 0x34) [0x12] ∧
    decode [0x79, 0x34, 0x12] = .ok (.adcAbsY 0x1234) [] ∧
    decode [0x7D, 0x34, 0x12] = .ok (.adcAbsX 0x1234) [] := by decide

theorem test_decode_AND :
    decode [0x21, 0x34, 0x12] = .ok (.andIndX 0x34) [0x12] ∧
    decode [0x25, 0x34, 0x12] = .ok (.andZp 0x34) [0x12] ∧
    decode [0x29, 0x34, 0x12] = .ok (.andImm 0x34) [0x12] ∧
    decode [0x2D, 0x34, 0x12] = .ok (.andAbs 0x1234) [] ∧
    decode [0x31, 0x34, 0x12] = .ok (.andIndY 0x34) [0x12] ∧
    decode [0x35, 0x34, 0x12] = .ok (.andZpX 0x34) [0x12] ∧
    decode [0x39, 0x34, 0x12] = .ok (.andAbsY 0x1234) [] ∧
    decode [0x3D, 0x34, 0x12] = .ok (.andAbsX 0x1234) [] := by decide

theorem test_decode_ASL :
    decode [0x06, 0x34, 0x12] = .ok (.aslZp 0x34) [0x12] ∧
    decode [0x0A, 0x34, 0x12] = .ok .aslAcc [0x34, 0x12] ∧
    decode [0x0E, 0x34, 0x12] = .ok (.aslAbs 0x1234) [] ∧
    decode [0x16, 0x34, 0x12] = .ok (.aslZpX 0x34) [0x12] ∧
    decode [0x1E, 0x34, 0x12] = .ok (.aslAbsX 0x1234) [] := by decide

theorem test_decode_BCC :
    decode [0x90, 0x34, 0x12] = .ok (.bcc 0x34) [0x12] := by decide

theorem test_decode_BCS :
    decode [0xB0, 0x34, 0x12] = .ok (.bcs 0x34) [0x12] := by decide

theorem test_decode_BEQ :
    decode [0xF0, 0x34, 0x12] = .ok (.beq 0x34) [0x12] := by decide

theorem test_decode_BIT :
    decode [0x24, 0x34, 0x12] = .ok (.bitZp 0x34) [0x12] ∧
    decode [0x2C, 0x34, 0x12] = .ok (.bitAbs 0x1234) [] := by decide

theorem test_decode_BMI :
    decode [0x30, 0x34, 0x12] = .ok (.bmi 0x34) [0x12] := by decide

theorem test_decode_BNE :
    decode [0xD0, 0x34, 0x12] = .ok (.bne 0x34) [0x12] := by decide

theorem test_decode_BPL :
    decode [0x10, 0x34, 0x12] = .ok (.bpl 0x34) [0x12] := by decide

theorem test_decode_BRK :
    decode [0x00, 0x34, 0x12] = .ok .brk [0x34, 0x12] := by decide

theorem test_decode_BVC :
    decode [0x50, 0x34, 0x12] = .ok (.bvc 0x34) [0x12] := by decide

theorem test_decode_BVS :
    decode [0x70, 0x34, 0x12] = .ok (.bvs 0x34) [0x12] := by decide

theorem test_decode_CLC :
    decode [0x18, 0x34, 0x12] = .ok .clc [0x34, 0x12] := by decide

theorem test_decode_CLD :
    decode [0xD8, 0x34, 0x12] = .ok .cld [0x34, 0x12] := by decide

theorem test_decode_CLI :
    decode [0x58, 0x34, 0x12] = .ok .cli [0x34, 0x12] := by decide

theorem test_decode_CLV :
    decode [0xB8, 0x34, 0x12] = .ok .clv [0x34, 0x12] := by decide

theorem test_decode_CMP :
    decode [0xC1, 0x34, 0x12] = .ok (.cmpIndX 0x34) [0x12] ∧
    decode [0xC5, 0x34, 0x12] = .ok (.cmpZp 0x34) [0x12] ∧
    decode [0xC9, 0x34, 0x12] = .ok (.cmpImm 0x34) [0x12] ∧
    decode [0xCD, 0x34, 0x12] = .ok (.cmpAbs 0x1234) [] ∧
    decode [0xD1, 0x34, 0x12] = .ok (.cmpIndY 0x34) [0x12] ∧
    decode [0xD5, 0x34, 0x12] = .ok (.cmpZpX 0x34) [0x12] ∧
    decode [0xD9, 0x34, 0x12] = .ok (.cmpAbsY 0x1234) [] ∧
    decode [0xDD, 0x34, 0x12] = .ok (.cmpAbsX 0x1234) [] := by decide

theorem test_decode_CPX :
    decode [0xE0, 0x34, 0x12] = .ok (.cpxImm 0x34) [0x12] ∧
    decode [0xE4, 0x34, 0x12] = .ok (.cpxZp 0x34) [0x12] ∧
    decode [0xEC, 0x34, 0x12] = .ok (.cpxAbs 0x1234) [] := by decide

theorem test_decode_CPY :
    decode [0xC0, 0x34, 0x12] = .ok (.cpyImm 0x34) [0x12] ∧
    decode [0xC4, 0x34, 0x12] = .ok (.cpyZp 0x34) [0x12] ∧
    decode [0xCC, 0x34, 0x12] = .ok (.cpyAbs 0x1234) [] := by decide

theorem test_decode_DEC :
    decode [0xC6, 0x34, 0x12] = .ok (.decZp 0x34) [0x12] ∧
    decode [0xCE, 0x34, 0x12] = .ok (.decAbs 0x1234) [] ∧
    decode [0xD6, 0x34, 0x12] = .ok (.decZpX 0x34) [0x12] ∧
    decode [0xDE, 0x34, 0x12] = .ok (.decAbsX 0x1234) [] := by decide

theorem test_decode_DEX :
    decode [0xCA, 0x34, 0x12] = .ok .dex [0x34, 0x12] := by decide

theorem test_decode_DEY :
    decode [0x88, 0x34, 0x12] = .ok .dey [0x34, 0x12] := by decide

theorem test_decode_EOR :
    decode [0x41, 0x34, 0x12] = .ok (.eorIndX 0x34) [0x12] ∧
    decode [0x45, 0x34, 0x12] = .ok (.eorZp 0x34) [0x12] ∧
    decode [0x49, 0x34, 0x12] = .ok (.eorImm 0x34) [0x12] ∧
    decode [0x4D, 0x34, 0x12] = .ok (.eorAbs 0x1234) [] ∧
    decode [0x51, 0x34, 0x12] = .ok (.eorIndY 0x34) [0x12] ∧
    decode [0x55, 0x34, 0x12] = .ok (.eorZpX 0x34) [0x12] ∧
    decode [0x59, 0x34, 0x12] = .ok (.eorAbsY 0x1234) [] ∧
    decode [0x5D, 0x34, 0x12] = .ok (.eorAbsX 0x1234) [] := by decide

theorem test_decode_INC :
    decode [0xE6, 0x34, 0x12] = .ok (.incZp 0x34) [0x12] ∧
    decode [0xEE, 0x34, 0x12] = .ok (.incAbs 0x1234) [] ∧
    decode [0xF6, 0x34, 0x12] = .ok (.incZpX 0x34) [0x12] ∧
    decode [0xFE, 0x34, 0x12] = .ok (.incAbsX 0x1234) [] := by decide

theorem test_decode_INX :
    decode [0xE8, 0x34, 0x12] = .ok .inx [0x34, 0x12] := by decide

theorem test_decode_INY :
    decode [0xC8, 0x34, 0x12] = .ok .iny [0x34, 0x12] := by decide

theorem test_decode_JMP :
    decode [0x4C, 0x34, 0x12] = .ok (.jmpAbs 0x1234) [] ∧
    decode [0x6C, 0x34, 0x12] = .ok (.jmpInd 0x1234) [] := by decide

theorem test_decode_JSR :
    decode [0x20, 0x34, 0x12] = .ok (.jsr 0x1234) [] := by decide

theorem test_decode_LDA :
    decode [0xA1, 0x34, 0x12] = .ok (.ldaIndX 0x34) [0x12] ∧
    decode [0xA5, 0x34, 0x12] = .ok (.ldaZp 0x34) [0x12] ∧
    decode [0xA9, 0x34, 0x12] = .ok (.ldaImm 0x34) [0x12] ∧
    decode [0xAD, 0x34, 0x12] = .ok (.ldaAbs 0x1234) [] ∧
    decode [0xB1, 0x34, 0x12] = .ok (.ldaIndY 0x34) [0x12] ∧
    decode [0xB5, 0x34, 0x12] = .ok (.ldaZpX 0x34) [0x12] ∧
    decode [0xB9, 0x34, 0x12] = .ok (.ldaAbsY 0x1234) [] ∧
    decode [0xBD, 0x34, 0x12] = .ok (.ldaAbsX 0x1234) [] := by decide

theorem test_decode_LDX :
    decode [0xA2, 0x34, 0x12] = .ok (.ldxImm 0x34) [0x12] ∧
    decode [0xA6, 0x34, 0x12] = .ok (.ldxZp 0x34) [0x12] ∧
    decode [0xAE, 0x34, 0x12] = .ok (.ldxAbs 0x1234) [] ∧
    decode [0xB6, 0x34, 0x12] = .ok (.ldxZpY 0x34) [0x12] ∧
    decode [0xBE, 0x34, 0x12] = .ok (.ldxAbsY 0x1234) [] := by decide

theorem test_decode_LDY :
    decode [0xA0, 0x34, 0x12] = .ok (.ldyImm 0x34) [0x12] ∧
    decode [0xA4, 0x34, 0x12] = .ok (.ldyZp 0x34) [0x12] ∧
    decode [0xAC, 0x34, 0x12] = .ok (.ldyAbs 0x1234) [] ∧
    decode [0xB4, 0x34, 0x12] = .ok (.ldyZpX 0x34) [0x12] ∧
    decode [0xBC, 0x34, 0x12] = .ok (.ldyAbsX 0x1234) [] := by decide

theorem test_decode_LSR :
    decode [0x46, 0x34, 0x12] = .ok (.lsrZp 0x34) [0x12] ∧
    decode [0x4A, 0x34, 0x12] = .ok .lsrAcc [0x34, 0x12] ∧
    decode [0x4E, 0x34, 0x12] = .ok (.lsrAbs 0x1234) [] ∧
    decode [0x56, 0x34, 0x12] = .ok (.lsrZpX 0x34) [0x12] ∧
    decode [0x5E, 0x34, 0x12] = .ok (.lsrAbsX 0x1234) [] := by decide

theorem test_decode_NOP :
    decode [0xEA, 0x34, 0x12] = .ok .nop [0x34, 0x12] := by decide

theorem test_decode_ORA :
    decode [0x01, 0x34, 0x12] = .ok (.oraIndX 0x34) [0x12] ∧
    decode [0x05, 0x34, 0x12] = .ok (.oraZp 0x34) [0x12] ∧
    decode [0x09, 0x34, 0x12] = .ok (.oraImm 0x34) [0x12] ∧
    decode [0x0D, 0x34, 0x12] = .ok (.oraAbs 0x1234) [] ∧
    decode [0x11, 0x34, 0x12] = .ok (.oraIndY 0x34) [0x12] ∧
    decode [0x15, 0x34, 0x12] = .ok (.oraZpX 0x34) [0x12] ∧
    decode [0x19, 0x34, 0x12] = .ok (.oraAbsY 0x1234) [] ∧
    decode [0x1D, 0x34, 0x12] = .ok (.oraAbsX 0x1234) [] := by decide

theorem test_decode_PHA :
    decode [0x48, 0x34, 0x12] = .ok .pha [0x34, 0x12] := by decide

theorem test_decode_PHP :
    decode [0x08, 0x34, 0x12] = .ok .php [0x34, 0x12] := by decide

theorem test_decode_PLA :
    decode [0x68, 0x34, 0x12] = .ok .pla [0x34, 0x12] := by decide

theorem test_decode_PLP :
    decode [0x28, 0x34, 0x12] = .ok .plp [0x34, 0x12] := by decide

theorem test_decode_ROL :
    decode [0x26, 0x34, 0x12] = .ok (.rolZp 0x34) [0x12] ∧
    decode [0x2A, 0x34, 0x12] = .ok .rolAcc [0x34, 0x12] ∧
    decode [0x2E, 0x34, 0x12] = .ok (.rolAbs 0x1234) [] ∧
    decode [0x36, 0x34, 0x12] = .ok (.rolZpX 0x34) [0x12] ∧
    decode [0x3E, 0x34, 0x12] = .ok (.rolAbsX 0x1234) [] := by decide

theorem test_decode_ROR :
    decode [0x66, 0x34, 0x12] = .ok (.rorZp 0x34) [0x12] ∧
    decode [0x6A, 0x34, 0x12] = .ok .rorAcc [0x34, 0x12] ∧
    decode [0x6E, 0x34, 0x12] = .ok (.rorAbs 0x1234) [] ∧
    decode [0x76, 0x34, 0x12] = .ok (.rorZpX 0x34) [0x12] ∧
    decode [0x7E, 0x34, 0x12] = .ok (.rorAbsX 0x1234) [] := by decide

theorem test_decode_RTI :
    decode [0x40, 0x34, 0x12] = .ok .rti [0x34, 0x12] := by decide

theorem test_decode_RTS :
    decode [0x60, 0x34, 0x12] = .ok .rts [0x34, 0x12] := by decide

theorem test_decode_SBC :
    decode [0xE1, 0x34, 0x12] = .ok (.sbcIndX 0x34) [0x12] ∧
    decode [0xE5, 0x34, 0x12] = .ok (.sbcZp 0x34) [0x12] ∧
    decode [0xE9, 0x34, 0x12] = .ok (.sbcImm 0x34) [0x12] ∧
    decode [0xED, 0x34, 0x12] = .ok (.sbcAbs 0x1234) [] ∧
    decode [0xF1, 0x34, 0x12] = .ok (.sbcIndY 0x34) [0x12] ∧
    decode [0xF5, 0x34, 0x12] = .ok (.sbcZpX 0x34) [0x12] ∧
    decode [0xF9, 0x34, 0x12] = .ok (.sbcAbsY 0x1234) [] ∧
    decode [0xFD, 0x34, 0x12] = .ok (.sbcAbsX 0x1234) [] := by decide

theorem test_decode_SEC :
    decode [0x38, 0x34, 0x12] = .ok .sec [0x34, 0x12] := by decide

theorem test_decode_SED :
    decode [0xF8, 0x34, 0x12] = .ok .sed [0x34, 0x12] := by decide

theorem test_decode_SEI :
    decode [0x78, 0x34, 0x12] = .ok .sei [0x34, 0x12] := by decide

theorem test_decode_STA :
    decode [0x81, 0x34, 0x12] = .ok (.staIndX 0x34) [0x12] ∧
    decode [0x85, 0x34, 0x12] = .ok (.staZp 0x34) [0x12] ∧
    decode [0x8D, 0x34, 0x12] = .ok (.staAbs 0x1234) [] ∧
    decode [0x91, 0x34, 0x12] = .ok (.staIndY 0x34) [0x12] ∧
    decode [0x95, 0x34, 0x12] = .ok (.staZpX 0x34) [0x12] ∧
    decode [0x99, 0x34, 0x12] = .ok (.staAbsY 0x1234) [] ∧
    decode [0x9D, 0x34, 0x12] = .ok (.staAbsX 0x1234) [] := by decide

theorem test_decode_STX :
    decode [0x86, 0x34, 0x12] = .ok (.stxZp 0x34) [0x12] ∧
    decode [0x8E, 0x34, 0x12] = .ok (.stxAbs 0x1234) [] ∧
    decode [0x96, 0x34, 0x12] = .ok (.stxZpY 0x34) [0x12] := by decide

theorem test_decode_STY :
    decode [0x84, 0x34, 0x12] = .ok (.styZp 0x34) [0x12] ∧
    decode [0x8C, 0x34, 0x12] = .ok (.styAbs 0x1234) [] ∧
    decode [0x94, 0x34, 0x12] = .ok (.styZpX 0x34) [0x12] := by decide

theorem test_decode_TAX :
    decode [0xAA, 0x34, 0x12] = .ok .tax [0x34, 0x12] := by decide

theorem test_decode_TAY :
    decode [0xA8, 0x34, 0x12] = .ok .tay [0x34, 0x12] := by decide

theorem test_decode_TSX :
    decode [0xBA, 0x34, 0x12] = .ok .tsx [0x34, 0x12] := by decide

theorem test_decode_TXA :
    decode [0x8A, 0x34, 0x12] = .ok .txa [0x34, 0x12] := by decide

theorem test_decode_TXS :
    decode [0x9A, 0x34, 0x12] = .ok .txs [0x34, 0x12] := by decide

theorem test_decode_TYA :
    decode [0x98, 0x34, 0x12] = .ok .tya [0x34, 0x12] := by decide

/-- The numbering of spec/opcode_table.json: the second byte is bits 15 to 8. -/
theorem test_table_word_of_adc_immediate : decodeTableWord 16 0x5069 = some (.adcImm 0x50) := by decide

/-- Bits from `nbits` on are zero. -/
theorem test_table_word_bits_above_are_zero : decodeTableWord 8 0x12344C = some (.jmpAbs 0x0000) := by decide

/-- A table word placed at PC runs as the first instruction after reset. -/
theorem test_placed_word_runs_first : step (State.reset.withFetchWord 8 0xEA) =
    exec .nop (State.reset.withFetchWord 8 0xEA) := rfl

/-! ### Vectors of spec/95_test_vectors.md part 2 -/

theorem test_TR1 :
    let t := after [0xA9, 0x80] [] start
    view t = (0x80, 0x00, 0x00, 0xFF, 0x0602, 0b100000) := by
  decide

theorem test_TR4 :
    let t := after [0xB5, 0xF0] [(0x0010, 0x99), (0x0110, 0x11)] { start with x := 0x20 }
    view t = (0x99, 0x20, 0x00, 0xFF, 0x0602, 0b100000) := by
  decide

theorem test_TR8 :
    let t := after [0xA1, 0xFE] [(0x0000, 0x12), (0x00FF, 0x34), (0x0100, 0x77), (0x1234, 0xC3), (0x7734, 0x3C)] { start with x := 0x01 }
    view t = (0xC3, 0x01, 0x00, 0xFF, 0x0602, 0b100000) := by
  decide

theorem test_TR9 :
    let t := after [0xB1, 0xFF] [(0x0000, 0x20), (0x00FF, 0xF8), (0x0100, 0x30), (0x2108, 0x5A), (0x3108, 0xA5)] { start with y := 0x10 }
    view t = (0x5A, 0x00, 0x10, 0xFF, 0x0602, 0b000000) := by
  decide

theorem test_TR11 :
    let t := after [0xB6, 0x10] [(0x0011, 0x00)] { start with x := 0x33, y := 0x01 }
    view t = (0x00, 0x00, 0x01, 0xFF, 0x0602, 0b000010) := by
  decide

theorem test_TR12 :
    let t := after [0xBE, 0x00, 0x12] [(0x12FF, 0x80)] { start with y := 0xFF }
    view t = (0x00, 0x80, 0xFF, 0xFF, 0x0603, 0b100000) := by
  decide

theorem test_TR13 :
    let t := after [0xA0, 0x7F] [] start
    view t = (0x00, 0x00, 0x7F, 0xFF, 0x0602, 0b000000) := by
  decide

theorem test_TR14 :
    let t := after [0xB4, 0x80] [(0x0010, 0xF0)] { start with x := 0x90 }
    view t = (0x00, 0x90, 0xF0, 0xFF, 0x0602, 0b100000) := by
  decide

theorem test_TR15 :
    let t := after [0x9D, 0x00, 0x02] [] { start with a := 0x42, x := 0x02, z := true }
    view t = (0x42, 0x02, 0x00, 0xFF, 0x0603, 0b000010) ∧ t.readByte 0x0202 = 0x42 := by
  decide

theorem test_TR16 :
    let t := after [0x91, 0x20] [(0x0020, 0xFE), (0x0021, 0x02)] { start with a := 0x99, y := 0x05 }
    view t = (0x99, 0x00, 0x05, 0xFF, 0x0602, 0b000000) ∧ t.readByte 0x0303 = 0x99 := by
  decide

theorem test_TR18 :
    let t := after [0x96, 0xFF] [] { start with x := 0xFF, y := 0x01 }
    view t = (0x00, 0xFF, 0x01, 0xFF, 0x0602, 0b000000) ∧ t.readByte 0x0000 = 0xFF := by
  decide

theorem test_TR19 :
    let t := after [0x8C, 0x34, 0x12] [] { start with y := 0x07 }
    view t = (0x00, 0x00, 0x07, 0xFF, 0x0603, 0b000000) ∧ t.readByte 0x1234 = 0x07 := by
  decide

theorem test_TR20 :
    let t := after [0xAA] [] { start with a := 0x00, x := 0x55 }
    view t = (0x00, 0x00, 0x00, 0xFF, 0x0601, 0b000010) := by
  decide

theorem test_TR21 :
    let t := after [0xA8] [] { start with a := 0x90 }
    view t = (0x90, 0x00, 0x90, 0xFF, 0x0601, 0b100000) := by
  decide

theorem test_TR22 :
    let t := after [0xBA] [] { start with sp := 0xFD }
    view t = (0x00, 0xFD, 0x00, 0xFD, 0x0601, 0b100000) := by
  decide

theorem test_TR23 :
    let t := after [0x8A] [] { start with a := 0xFF, x := 0x01, n := true }
    view t = (0x01, 0x01, 0x00, 0xFF, 0x0601, 0b000000) := by
  decide

theorem test_TR24 :
    let t := after [0x9A] [] { start with x := 0x00, sp := 0xFF, n := true }
    view t = (0x00, 0x00, 0x00, 0x00, 0x0601, 0b100000) := by
  decide

theorem test_TR25 :
    let t := after [0x98] [] { start with a := 0x12, y := 0x00 }
    view t = (0x00, 0x00, 0x00, 0xFF, 0x0601, 0b000010) := by
  decide

theorem test_ST1 :
    let t := after [0x48] [] { start with a := 0xAB }
    view t = (0xAB, 0x00, 0x00, 0xFE, 0x0601, 0b000000) ∧ t.readByte 0x01FF = 0xAB := by
  decide

theorem test_ST2 :
    let t := after [0x48] [] { start with a := 0xCD, sp := 0x00 }
    view t = (0xCD, 0x00, 0x00, 0xFF, 0x0601, 0b000000) ∧ t.readByte 0x0100 = 0xCD := by
  decide

theorem test_ST3 :
    let t := after [0x08] [] { start with n := true, i := true, c := true }
    view t = (0x00, 0x00, 0x00, 0xFE, 0x0601, 0b100101) ∧ t.readByte 0x01FF = 0xB5 := by
  decide

theorem test_ST4 :
    let t := after [0x08] [] start
    view t = (0x00, 0x00, 0x00, 0xFE, 0x0601, 0b000000) ∧ t.readByte 0x01FF = 0x30 := by
  decide

theorem test_ST5 :
    let t := after [0x68] [(0x01FF, 0x00)] { start with a := 0x11, sp := 0xFE }
    view t = (0x00, 0x00, 0x00, 0xFF, 0x0601, 0b000010) := by
  decide

theorem test_ST6 :
    let t := after [0x68] [(0x0100, 0x80)] { start with sp := 0xFF }
    view t = (0x80, 0x00, 0x00, 0x00, 0x0601, 0b100000) := by
  decide

theorem test_ST7 :
    let t := after [0x28] [(0x01FF, 0xFF)] { start with sp := 0xFE }
    view t = (0x00, 0x00, 0x00, 0xFF, 0x0601, 0b111111) := by
  decide

theorem test_ST8 :
    let t := after [0x28] [(0x01FF, 0x30)] { start with sp := 0xFE, n := true, v := true, d := true, i := true, z := true, c := true }
    view t = (0x00, 0x00, 0x00, 0xFF, 0x0601, 0b000000) := by
  decide

theorem test_ID2 :
    let t := after [0xD6, 0x10] [(0x0011, 0x01)] { start with x := 0x01 }
    view t = (0x00, 0x01, 0x00, 0xFF, 0x0602, 0b000010) ∧ t.readByte 0x0011 = 0x00 := by
  decide

theorem test_ID3 :
    let t := after [0xCE, 0x34, 0x12] [(0x1234, 0x80)] { start with v := true, c := true }
    view t = (0x00, 0x00, 0x00, 0xFF, 0x0603, 0b010001) ∧ t.readByte 0x1234 = 0x7F := by
  decide

theorem test_ID5 :
    let t := after [0xCA] [] { start with x := 0x01 }
    view t = (0x00, 0x00, 0x00, 0xFF, 0x0601, 0b000010) := by
  decide

theorem test_ID6 :
    let t := after [0xCA] [] { start with x := 0x00 }
    view t = (0x00, 0xFF, 0x00, 0xFF, 0x0601, 0b100000) := by
  decide

theorem test_ID7 :
    let t := after [0x88] [] { start with y := 0x00 }
    view t = (0x00, 0x00, 0xFF, 0xFF, 0x0601, 0b100000) := by
  decide

theorem test_ID8 :
    let t := after [0xE6, 0x10] [(0x0010, 0xFF)] start
    view t = (0x00, 0x00, 0x00, 0xFF, 0x0602, 0b000010) ∧ t.readByte 0x0010 = 0x00 := by
  decide

theorem test_ID9 :
    let t := after [0xEE, 0x34, 0x12] [(0x1234, 0x7F)] start
    view t = (0x00, 0x00, 0x00, 0xFF, 0x0603, 0b100000) ∧ t.readByte 0x1234 = 0x80 := by
  decide

theorem test_ID11 :
    let t := after [0xE8] [] { start with x := 0x7F }
    view t = (0x00, 0x80, 0x00, 0xFF, 0x0601, 0b100000) := by
  decide

theorem test_ID12 :
    let t := after [0xE8] [] { start with x := 0xFF }
    view t = (0x00, 0x00, 0x00, 0xFF, 0x0601, 0b000010) := by
  decide

theorem test_ID13 :
    let t := after [0xC8] [] { start with y := 0xFF }
    view t = (0x00, 0x00, 0x00, 0xFF, 0x0601, 0b000010) := by
  decide

theorem test_AR5 :
    let t := after [0x69, 0xFF] [] { start with a := 0xFF, c := true }
    view t = (0xFF, 0x00, 0x00, 0xFF, 0x0602, 0b100001) := by
  decide

theorem test_AR6 :
    let t := after [0x69, 0x00] [] { start with a := 0x7F, c := true }
    view t = (0x80, 0x00, 0x00, 0xFF, 0x0602, 0b110000) := by
  decide

theorem test_AR15 :
    let t := after [0xE9, 0x01] [] { start with a := 0x80, c := true }
    view t = (0x7F, 0x00, 0x00, 0xFF, 0x0602, 0b010001) := by
  decide

theorem test_AR16 :
    let t := after [0xE9, 0xFF] [] { start with a := 0x7F, c := true }
    view t = (0x80, 0x00, 0x00, 0xFF, 0x0602, 0b110000) := by
  decide

theorem test_LG2 :
    let t := after [0x29, 0x00] [] { start with a := 0xFF, v := true, c := true }
    view t = (0x00, 0x00, 0x00, 0xFF, 0x0602, 0b010011) := by
  decide

theorem test_LG3 :
    let t := after [0x25, 0x40] [(0x0040, 0x80)] { start with a := 0x81 }
    view t = (0x80, 0x00, 0x00, 0xFF, 0x0602, 0b100000) := by
  decide

theorem test_LG5 :
    let t := after [0x49, 0xFF] [] { start with a := 0xAA }
    view t = (0x55, 0x00, 0x00, 0xFF, 0x0602, 0b000000) := by
  decide

theorem test_LG7 :
    let t := after [0x41, 0x10] [(0x0012, 0x00), (0x0013, 0x04), (0x0400, 0xFF)] { start with a := 0x7F, x := 0x02 }
    view t = (0x80, 0x02, 0x00, 0xFF, 0x0602, 0b100000) := by
  decide

theorem test_LG8 :
    let t := after [0x05, 0x40] [(0x0040, 0x80)] { start with a := 0x0F }
    view t = (0x8F, 0x00, 0x00, 0xFF, 0x0602, 0b100000) := by
  decide

theorem test_LG9 :
    let t := after [0x09, 0x00] [] { start with a := 0x00, n := true }
    view t = (0x00, 0x00, 0x00, 0xFF, 0x0602, 0b000010) := by
  decide

theorem test_SH3 :
    let t := after [0x0A] [] { start with a := 0x40, c := true }
    view t = (0x80, 0x00, 0x00, 0xFF, 0x0601, 0b100000) := by
  decide

theorem test_SH4 :
    let t := after [0x06, 0x20] [(0x0020, 0xFF)] { start with a := 0x11 }
    view t = (0x11, 0x00, 0x00, 0xFF, 0x0602, 0b100001) ∧ t.readByte 0x0020 = 0xFE := by
  decide

theorem test_SH6 :
    let t := after [0x46, 0x20] [(0x0020, 0x03)] start
    view t = (0x00, 0x00, 0x00, 0xFF, 0x0602, 0b000001) ∧ t.readByte 0x0020 = 0x01 := by
  decide

theorem test_SH7 :
    let t := after [0x5E, 0x34, 0x12] [(0x1235, 0x80)] { start with x := 0x01, c := true }
    view t = (0x00, 0x01, 0x00, 0xFF, 0x0603, 0b000000) ∧ t.readByte 0x1235 = 0x40 := by
  decide

theorem test_SH10 :
    let t := after [0x2A] [] { start with a := 0x80, c := true }
    view t = (0x01, 0x00, 0x00, 0xFF, 0x0601, 0b000001) := by
  decide

theorem test_SH11 :
    let t := after [0x36, 0x20] [(0x0021, 0x00)] { start with x := 0x01, c := true }
    view t = (0x00, 0x01, 0x00, 0xFF, 0x0602, 0b000000) ∧ t.readByte 0x0021 = 0x01 := by
  decide

theorem test_SH12 :
    let t := after [0x6A] [] { start with a := 0x02, c := true }
    view t = (0x81, 0x00, 0x00, 0xFF, 0x0601, 0b100000) := by
  decide

theorem test_SH13 :
    let t := after [0x6A] [] { start with a := 0x01 }
    view t = (0x00, 0x00, 0x00, 0xFF, 0x0601, 0b000011) := by
  decide

theorem test_FL1 :
    let t := after [0x18] [] { start with n := true, c := true }
    view t = (0x00, 0x00, 0x00, 0xFF, 0x0601, 0b100000) := by
  decide

theorem test_FL2 :
    let t := after [0xD8] [] { start with d := true }
    view t = (0x00, 0x00, 0x00, 0xFF, 0x0601, 0b000000) := by
  decide

theorem test_FL3 :
    let t := after [0x58] [] { start with i := true }
    view t = (0x00, 0x00, 0x00, 0xFF, 0x0601, 0b000000) := by
  decide

theorem test_FL4 :
    let t := after [0xB8] [] { start with v := true, z := true }
    view t = (0x00, 0x00, 0x00, 0xFF, 0x0601, 0b000010) := by
  decide

theorem test_FL5 :
    let t := after [0x38] [] start
    view t = (0x00, 0x00, 0x00, 0xFF, 0x0601, 0b000001) := by
  decide

theorem test_FL6 :
    let t := after [0xF8] [] start
    view t = (0x00, 0x00, 0x00, 0xFF, 0x0601, 0b001000) := by
  decide

theorem test_FL7 :
    let t := after [0x78] [] start
    view t = (0x00, 0x00, 0x00, 0xFF, 0x0601, 0b000100) := by
  decide

theorem test_CP4 :
    let t := after [0xC9, 0x00] [] { start with a := 0xFF }
    view t = (0xFF, 0x00, 0x00, 0xFF, 0x0602, 0b100001) := by
  decide

theorem test_CP5 :
    let t := after [0xC9, 0xFF] [] { start with a := 0x00, c := true }
    view t = (0x00, 0x00, 0x00, 0xFF, 0x0602, 0b000000) := by
  decide

theorem test_CP8 :
    let t := after [0xE0, 0x10] [] { start with x := 0x10 }
    view t = (0x00, 0x10, 0x00, 0xFF, 0x0602, 0b000011) := by
  decide

theorem test_CP9 :
    let t := after [0xC4, 0x30] [(0x0030, 0x03)] { start with y := 0x05 }
    view t = (0x00, 0x00, 0x05, 0xFF, 0x0602, 0b000001) := by
  decide

theorem test_CP10 :
    let t := after [0xEC, 0x34, 0x12] [(0x1234, 0x01)] { start with x := 0x00 }
    view t = (0x00, 0x00, 0x00, 0xFF, 0x0603, 0b100000) := by
  decide

theorem test_BR1 :
    let t := after [0x90, 0x04] [] start
    view t = (0x00, 0x00, 0x00, 0xFF, 0x0606, 0b000000) := by
  decide

theorem test_BR2 :
    let t := after [0x90, 0x04] [] { start with c := true }
    view t = (0x00, 0x00, 0x00, 0xFF, 0x0602, 0b000001) := by
  decide

theorem test_BR3 :
    let t := after [0xB0, 0xFC] [] { start with c := true }
    view t = (0x00, 0x00, 0x00, 0xFF, 0x05FE, 0b000001) := by
  decide

theorem test_BR4 :
    let t := after [0xF0, 0x10] [] { start with z := true }
    view t = (0x00, 0x00, 0x00, 0xFF, 0x0612, 0b000010) := by
  decide

theorem test_BR5 :
    let t := after [0x30, 0x7F] [] { start with n := true }
    view t = (0x00, 0x00, 0x00, 0xFF, 0x0681, 0b100000) := by
  decide

theorem test_BR6 :
    let t := after [0xD0, 0xFD] [] { start with pc := 0x0603 }
    view t = (0x00, 0x00, 0x00, 0xFF, 0x0602, 0b000000) := by
  decide

theorem test_BR7 :
    let t := after [0x10, 0x80] [] start
    view t = (0x00, 0x00, 0x00, 0xFF, 0x0582, 0b000000) := by
  decide

theorem test_BR8 :
    let t := after [0x50, 0x00] [] start
    view t = (0x00, 0x00, 0x00, 0xFF, 0x0602, 0b000000) := by
  decide

theorem test_BR9 :
    let t := after [0x70, 0x02] [] start
    view t = (0x00, 0x00, 0x00, 0xFF, 0x0602, 0b000000) := by
  decide

theorem test_BR10 :
    let t := after [0x70, 0x02] [] { start with v := true }
    view t = (0x00, 0x00, 0x00, 0xFF, 0x0604, 0b010000) := by
  decide

theorem test_BR11 :
    let t := after [0xD0, 0xFE] [] start
    view t = (0x00, 0x00, 0x00, 0xFF, 0x0600, 0b000000) := by
  decide

theorem test_BR12 :
    let t := after [0x10, 0x7F] [] { start with pc := 0xFFF0 }
    view t = (0x00, 0x00, 0x00, 0xFF, 0x0071, 0b000000) := by
  decide

theorem test_BR14 :
    let t := after [0xF0, 0x05] [] { start with n := true, v := true, c := true }
    view t = (0x00, 0x00, 0x00, 0xFF, 0x0602, 0b110001) := by
  decide

theorem test_JP2 :
    let t := after [0x4C, 0x00, 0x06] [] start
    view t = (0x00, 0x00, 0x00, 0xFF, 0x0600, 0b000000) := by
  decide

theorem test_JP3 :
    let t := after [0x6C, 0x20, 0x01] [(0x0120, 0xFC), (0x0121, 0xBA)] start
    view t = (0x00, 0x00, 0x00, 0xFF, 0xBAFC, 0b000000) := by
  decide

theorem test_JP4 :
    let t := after [0x6C, 0xFF, 0x30] [(0x3000, 0x50), (0x30FF, 0x80), (0x3100, 0x40)] start
    view t = (0x00, 0x00, 0x00, 0xFF, 0x5080, 0b000000) := by
  decide

theorem test_JP5 :
    let t := after [0x6C, 0xFF, 0x30] [(0x3000, 0x50), (0x30FF, 0x80), (0x3100, 0x40)] { start with cfg := wrapOff }
    view t = (0x00, 0x00, 0x00, 0xFF, 0x4080, 0b000000) := by
  decide

theorem test_JS1 :
    let t := after [0x20, 0x10, 0x06] [] start
    view t = (0x00, 0x00, 0x00, 0xFD, 0x0610, 0b000000) ∧ t.readByte 0x01FF = 0x06 ∧ t.readByte 0x01FE = 0x02 := by
  decide

theorem test_JS2 :
    let t := after [0x20, 0x34, 0x12] [] { start with sp := 0x00, pc := 0x06FE }
    view t = (0x00, 0x00, 0x00, 0xFE, 0x1234, 0b000000) ∧ t.readByte 0x0100 = 0x07 ∧ t.readByte 0x01FF = 0x00 := by
  decide

theorem test_JS4 :
    let t := after [0x60] [(0x01FE, 0x02), (0x01FF, 0x06)] { start with sp := 0xFD, pc := 0x0610 }
    view t = (0x00, 0x00, 0x00, 0xFF, 0x0603, 0b000000) := by
  decide

theorem test_JS5 :
    let t := after [0x60] [(0x0100, 0xFF), (0x01FF, 0xFF)] { start with sp := 0xFE }
    view t = (0x00, 0x00, 0x00, 0x00, 0x0000, 0b000000) := by
  decide

theorem test_BK1 :
    let t := after [0x00] [(0xFFFE, 0x00), (0xFFFF, 0x80)] { start with z := true, c := true }
    view t = (0x00, 0x00, 0x00, 0xFC, 0x8000, 0b000111) ∧ t.readByte 0x01FF = 0x06 ∧ t.readByte 0x01FE = 0x02 ∧
      t.readByte 0x01FD = 0x33 := by
  decide

theorem test_BK2 :
    let t := after [0x00] [(0xFFFE, 0x34), (0xFFFF, 0x00)] { start with sp := 0x01, pc := 0xFFFF, d := true, i := true }
    view t = (0x00, 0x00, 0x00, 0xFE, 0x0034, 0b001100) ∧ t.readByte 0x0101 = 0x00 ∧ t.readByte 0x0100 = 0x01 ∧
      t.readByte 0x01FF = 0x3C := by
  decide

theorem test_BK3 :
    let t := after [0x40] [(0x01FD, 0x33), (0x01FE, 0x02), (0x01FF, 0x06)] { start with sp := 0xFC, pc := 0x8000, i := true }
    view t = (0x00, 0x00, 0x00, 0xFF, 0x0602, 0b000011) := by
  decide

theorem test_BK5 :
    let t := after [0x24, 0x10] [(0x0010, 0x40)] { start with a := 0x0F }
    view t = (0x0F, 0x00, 0x00, 0xFF, 0x0602, 0b010010) := by
  decide

theorem test_BK6 :
    let t := after [0x2C, 0x34, 0x12] [(0x1234, 0xFF)] { start with a := 0x01, c := true }
    view t = (0x01, 0x00, 0x00, 0xFF, 0x0603, 0b110001) := by
  decide

theorem test_BK9 :
    let t := after [0xEA] [] { start with n := true, z := true, c := true }
    view t = (0x00, 0x00, 0x00, 0xFF, 0x0601, 0b100011) := by
  decide

theorem test_IN1 :
    let t := after [0xEA] [(0xFFFA, 0x00), (0xFFFB, 0x90)] { start with sp := 0xFD, pc := 0x0612, n := true, c := true, irqAsserted := true }
    view t = (0x00, 0x00, 0x00, 0xFA, 0x9000, 0b100101) ∧ t.readByte 0x01FD = 0x06 ∧ t.readByte 0x01FC = 0x12 ∧
      t.readByte 0x01FB = 0xA1 := by
  decide

theorem test_IN2 :
    let t := after [0xEA] [(0xFFFA, 0x00), (0xFFFB, 0x90)] { start with i := true, irqAsserted := true }
    view t = (0x00, 0x00, 0x00, 0xFF, 0x0601, 0b000100) := by
  decide

theorem test_IN3 :
    let t := after [0xEA] [(0xFFFE, 0x00), (0xFFFF, 0xA0)] { start with d := true, i := true, nmiPending := true }
    view t = (0x00, 0x00, 0x00, 0xFC, 0xA000, 0b001100) ∧ t.readByte 0x01FF = 0x06 ∧ t.readByte 0x01FE = 0x00 ∧
      t.readByte 0x01FD = 0x2C ∧ t.nmiPending = false := by
  decide

theorem test_IN4 :
    let t := after [0xEA] [(0xFFFA, 0x00), (0xFFFB, 0x90), (0xFFFE, 0x00), (0xFFFF, 0xA0)] { start with irqAsserted := true, nmiPending := true }
    view t = (0x00, 0x00, 0x00, 0xFC, 0xA000, 0b000100) ∧ t.readByte 0x01FF = 0x06 ∧ t.readByte 0x01FE = 0x00 ∧
      t.readByte 0x01FD = 0x20 ∧ t.nmiPending = false := by
  decide

theorem test_IN5 :
    let t := after [0x00] [(0xFFFA, 0x00), (0xFFFB, 0x90), (0xFFFE, 0x00), (0xFFFF, 0xA0)] { start with irqAsserted := true }
    view t = (0x00, 0x00, 0x00, 0xFC, 0x9000, 0b000100) ∧ t.readByte 0x01FF = 0x06 ∧ t.readByte 0x01FE = 0x00 ∧
      t.readByte 0x01FD = 0x20 := by
  decide

theorem test_IN6 :
    let t := after [0x58] [(0xFFFA, 0x00), (0xFFFB, 0x90)] { start with i := true, irqAsserted := true }
    view t = (0x00, 0x00, 0x00, 0xFF, 0x0601, 0b000000) := by
  decide

/-- Vector UN1 (30_encoding.md R77). -/
theorem test_UN1 : step (placed [0x02] [] start) = .refused (.unlistedOpcode 0x02) := rfl

/-! ### The memory map (20_memory.md R51), and the reset rule (70_reset_and_hazards.md R260) -/

/-- A store to ROM has no effect. -/
theorem test_store_to_rom :
    (after [0x8D, 0x00, 0xC0] [(0xC000, 0x55)] { start with a := 0x42, cfg := romAndHole }).readByte 0xC000 = 0x55 := by
  decide

/-- A load from where nothing is gives the byte the map names. -/
theorem test_load_from_nothing :
    (after [0xAD, 0x80, 0x80] [(0x8080, 0x55)] { start with cfg := romAndHole }).a = 0xEE := by decide

/-- Reset sets I, clears the NMI latch and loads PC from the vector. -/
theorem test_reset_from_the_vector :
    let t := (placed [] [(0xFFFC, 0x34), (0xFFFD, 0x12)] { start with nmiPending := true }).applyReset
      { InitialState.zeros with a := 0x77, d := true }
    view t = (0x77, 0, 0, 0, 0x1234, 0b001100) ∧ t.nmiPending = false := by decide

/-! ### Cycles (70_reset_and_hazards.md R272) -/

/-- `LDA $12F0,X` takes 5 cycles where X carries into the next page and 4 where it does not. -/
theorem test_cycles_page_cross :
    cycles (.ldaAbsX 0x12F0) { start with x := 0x10 } = 5 ∧ cycles (.ldaAbsX 0x12F0) { start with x := 0x0F } = 4 := by
  decide

/-- A branch takes 2, 3 or 4 cycles: not taken, taken in the page of PC + 2, taken to another page. -/
theorem test_cycles_branch :
    cycles (.bcc 0x04) { start with c := true } = 2 ∧ cycles (.bcc 0x04) start = 3 ∧ cycles (.bcc 0x80) start = 4 := by
  decide

/-! ### Witnesses: states and operands that meet an obligation's hypotheses together -/

theorem witness_DecodedBytesAreTheInstructionsEncoding :
    decode [0x6C, 0xFF, 0x30, 0xEA] = .ok (.jmpInd 0x30FF) [0xEA] := by decide

theorem witness_UnlistedOpcodesAreRefused_lowest :
    NoInterrupt (placed [0x02] [] start) ∧ (placed [0x02] [] start).fetchByte 0 ∈ unlistedOpcodes :=
  ⟨⟨by decide, by decide⟩, by decide⟩

theorem witness_UnlistedOpcodesAreRefused_highest :
    NoInterrupt (placed [0xFF] [] start) ∧ (placed [0xFF] [] start).fetchByte 0 ∈ unlistedOpcodes :=
  ⟨⟨by decide, by decide⟩, by decide⟩

theorem witness_PlacedInstructionIsRunByTheNextStep : decodeTableWord 24 0x12344C = some (.jmpAbs 0x1234) := by decide

theorem witness_StepRunsTheDecodedInstruction :
    let s := placed [0xA9, 0x80] [] { start with irqAsserted := true, i := true }
    NoInterrupt s ∧ (Instr.ldaImm 0x80).WellFormed ∧ decode s.fetchBytes = .ok (.ldaImm 0x80) [0x00] :=
  ⟨⟨by decide, by decide⟩, by decide, by decide⟩

theorem witness_StepRunsTheInstructionWhoseBytesStandAtPC :
    let s := placed [0x4C, 0x34, 0x12] [] { start with pc := 0xFFFF }
    NoInterrupt s ∧ (∀ k b, (encode (.jmpAbs 0x1234))[k]? = some b → s.readByte (s.pc + BitVec.ofNat 16 k) = b) := by
  refine ⟨⟨by decide, by decide⟩, ?_⟩
  intro k b h
  match k, h with
  | 0, h => cases h; decide
  | 1, h => cases h; decide
  | 2, h => cases h; decide
  | k + 3, h => cases h

theorem witness_InterruptsAreTakenBeforeTheInstruction_nmi : { start with nmiPending := true }.nmiPending = true := by decide

theorem witness_InterruptsAreTakenBeforeTheInstruction_irq :
    let s := { start with irqAsserted := true }
    s.nmiPending = false ∧ s.irqAsserted = true ∧ s.i = false := by decide

theorem witness_InterruptsAreTakenBeforeTheInstruction_masked :
    let s := placed [0x58] [] { start with irqAsserted := true, i := true }
    s.nmiPending = false ∧ s.irqAsserted = true ∧ s.i = true ∧ decode s.fetchBytes = .ok .cli [0x00, 0x00] := by decide

theorem witness_InterruptsAreTakenBeforeTheInstruction_event :
    (start.nmiPending || true) = true ∧ ({ start with nmiPending := true }.nmiPending || false) = true := by decide

theorem witness_HandlerEntered_stack_is_ram :
    let s := { start with sp := 0x01 }
    s.isRam (stackAddress s.sp) ∧ s.isRam (stackAddress (s.sp - 1)) ∧ s.isRam (stackAddress (s.sp - 2)) := by decide

theorem witness_PulledStatusByteSetsTheSixFlags : (0xFF : Byte) &&& 0xCF = 0xCF &&& 0xCF := by decide

theorem witness_RtiReturnsFromTheHandler :
    let s := { start with sp := 0x01, n := true, c := true }
    let t := s.takeInterrupt 0xFFFA false
    s.isRam (stackAddress s.sp) ∧ s.isRam (stackAddress (s.sp - 1)) ∧ s.isRam (stackAddress (s.sp - 2)) ∧
      t.sp = (s.takeInterrupt 0xFFFA false).sp ∧
      (∀ a ∈ [stackAddress s.sp, stackAddress (s.sp - 1), stackAddress (s.sp - 2)],
        t.readByte a = (s.takeInterrupt 0xFFFA false).readByte a) :=
  ⟨by decide, by decide, by decide, rfl, fun _ _ => rfl⟩

theorem witness_ReadAfterWriteFollowsTheMemoryMap :
    let s := { start with cfg := romAndHole }
    s.isRam 0xBFFF ∧ ¬ s.isRam 0xC000 ∧ ¬ s.isRam 0xFFFF ∧ s.cfg.kindAt (0x8000 : Word).toNat = .unpopulated 0xEE ∧
      s.cfg.kindAt (0x80FF : Word).toNat = .unpopulated 0xEE ∧ s.isRam 0x8100 := by decide

theorem witness_EveryStepKeepsMemoryCanonical :
    (placed [0x48] [] { start with a := 0xAB }).Inv ∧ ∃ t, step (placed [0x48] [] { start with a := 0xAB }) = .next t :=
  ⟨by unfold State.Inv; decide, _, rfl⟩

theorem witness_EveryRunKeepsMemoryCanonicalAndTheConfiguration :
    let s := placed [0x48, 0xEA] [] { start with a := 0xAB }
    let inputs := [{ irq := false, nmi := false }, { irq := true, nmi := true }]
    s.Inv ∧ ∃ t, runInputs inputs s = .next t :=
  ⟨by unfold State.Inv; decide, _, rfl⟩

theorem witness_CanonicalMemoriesThatReadAlikeAreEqual :
    Memory.wf [(0, 0x01), (65535, 0xFF)] = true ∧
      ∀ a, a < 65536 → Memory.read [(0, 0x01), (65535, 0xFF)] a = Memory.read [(0, 0x01), (65535, 0xFF)] a :=
  ⟨by decide, fun _ _ => rfl⟩

theorem witness_StepsLeaveTheInputsToTheEnvironment :
    ∃ t, step (placed [0xEA] [] { start with nmiPending := true, irqAsserted := true }) = .next t := ⟨_, rfl⟩

theorem witness_StackWrapsInsidePageOne :
    { start with sp := 0x00 }.sp = 0x00 ∧ start.sp = 0xFF ∧
      (State.push 0x42 { start with sp := 0x00 }).readByte 0x0100 ≠ { start with sp := 0x00 }.readByte 0x0100 ∧
      (start.push 0x42).readByte 0x01FF ≠ start.readByte 0x01FF := by decide

theorem witness_SixteenBitValuesAreLittleEndian :
    let s := { start with sp := 0x00 }
    s.isRam (stackAddress s.sp) ∧ s.isRam (stackAddress (s.sp - 1)) := by decide

theorem witness_OperandsAreReadAndStoredThroughTheirMode :
    { start with x := 0x20 }.effectiveAddress (.zeropageX 0xF0) = some 0x0010 := by decide

theorem witness_BranchOffsetsReachTheirTargets :
    branchOffset 0x0600 0x0681 = some 0x7F ∧ branchOffset 0x0600 0x0582 = some 0x80 ∧
      branchOffset 0xFFF0 0x0071 = some 0x7F ∧ branchOffset 0x0010 0xFF92 = some 0x80 ∧
      branchOffset 0x0600 0x0682 = none := by decide

theorem witness_LoadsTakeTheOperandAndSetNZ :
    (Instr.ldaImm 0x00).mnemonic = .lda ∧ (Instr.ldxZpY 0xFF).mnemonic = .ldx ∧ (Instr.ldyAbsX 0xFFFF).mnemonic = .ldy := by
  decide

theorem witness_StoresWriteOneByte :
    let s := { start with a := 0x11, x := 0x22, y := 0x33 }
    ((Instr.staIndY 0xFF).mnemonic = .sta ∧ s.a = s.a) ∧ ((Instr.stxZpY 0xFF).mnemonic = .stx ∧ s.x = s.x) ∧
      ((Instr.styAbs 0xFFFF).mnemonic = .sty ∧ s.y = s.y) := by decide

theorem witness_PhpAndPlpMoveTheFlagsThroughTheStack :
    let s := { start with n := true, c := true }
    (∃ t, exec .php s = .next t) ∧ s.isRam (stackAddress s.sp) := ⟨⟨_, rfl⟩, by decide⟩

theorem witness_MemoryIsCountedByOne :
    (Instr.decAbsX 0xFFFF).mnemonic = .dec ∧ (Instr.incZp 0x00).mnemonic = .inc := by decide

theorem witness_AdcAddsWithCarry : (Instr.adcIndX 0xFE).mnemonic = .adc ∧ start.d = false := by decide

theorem witness_SbcSubtractsWithBorrow : (Instr.sbcImm 0x00).mnemonic = .sbc ∧ start.d = false := by decide

theorem witness_DecimalModeTakesTheConfigurationFunctions :
    let s := { start with d := true, a := 0x09 }
    ∃ q r : ArithResult, s.d = true ∧
      ((Instr.adcImm 0x01).mnemonic = .adc ∧ q = Config.decimalAdc s.a (s.loadOperand (Instr.adcImm 0x01).operand) s.c) ∧
      ((Instr.sbcImm 0x01).mnemonic = .sbc ∧ r = Config.decimalSbc s.a (s.loadOperand (Instr.sbcImm 0x01).operand) s.c) :=
  ⟨_, _, rfl, ⟨rfl, rfl⟩, ⟨rfl, rfl⟩⟩

theorem witness_OnlyAdcAndSbcDependOnD :
    Instr.sed.mnemonic ∉ [Mnemonic.adc, .sbc, .php, .brk] ∧
      (∃ t, exec .sed start = .next t) ∧
      (Instr.cmpImm 0x10).mnemonic ∉ [Mnemonic.adc, .sbc, .php, .brk] ∧ ∃ t, exec (.cmpImm 0x10) start = .next t :=
  ⟨by decide, ⟨_, rfl⟩, by decide, _, rfl⟩

theorem witness_LogicalOperationsCombineBitByBit :
    ((Instr.andImm 0xFF).mnemonic = .and ∧ (fun p q : Bool => p && q) = fun p q => p && q) ∧
      ((Instr.eorImm 0xFF).mnemonic = .eor ∧ (fun p q : Bool => p != q) = fun p q => p != q) ∧
      ((Instr.oraImm 0xFF).mnemonic = .ora ∧ (fun p q : Bool => p || q) = fun p q => p || q) :=
  ⟨⟨rfl, rfl⟩, ⟨rfl, rfl⟩, ⟨rfl, rfl⟩⟩

theorem witness_ShiftsMoveByOneBit :
    Instr.aslAcc.mnemonic = .asl ∧ start.effectiveAddress Instr.aslAcc.operand = none ∧
      (Instr.lsrAbsX 0xFFFF).mnemonic = .lsr ∧
      { start with x := 0xFF }.effectiveAddress (Instr.lsrAbsX 0xFFFF).operand = some 0x00FE := by decide

theorem witness_RotatesPassThroughTheCarry :
    Instr.rolAcc.mnemonic = .rol ∧ start.effectiveAddress Instr.rolAcc.operand = none ∧
      (Instr.rorZpX 0xFF).mnemonic = .ror ∧
      { start with x := 0x01 }.effectiveAddress (Instr.rorZpX 0xFF).operand = some 0x0000 := by decide

theorem witness_RotatesUndoEachOther :
    (Instr.rolZpX 0xFF).mnemonic = .rol ∧ (Instr.rorZpX 0xFF).mnemonic = .ror ∧
      (Instr.rolZpX 0xFF).operand = (Instr.rorZpX 0xFF).operand ∧
      ∀ ea, { start with x := 0x01 }.effectiveAddress (Instr.rolZpX 0xFF).operand = some ea →
        { start with x := 0x01 }.isRam ea := by
  refine ⟨rfl, rfl, rfl, ?_⟩
  intro ea h
  cases h
  decide

theorem witness_ComparisonsSetNZC :
    let s := { start with a := 0x80, x := 0x00, y := 0xFF }
    ((Instr.cmpImm 0x01).mnemonic = .cmp ∧ s.a = s.a) ∧ ((Instr.cpxImm 0xFF).mnemonic = .cpx ∧ s.x = s.x) ∧
      ((Instr.cpyAbs 0xFFFF).mnemonic = .cpy ∧ s.y = s.y) := by decide

theorem witness_SubroutinesSaveAndRestorePC :
    let s := { start with sp := 0x00 }
    s.isRam (stackAddress s.sp) ∧ s.isRam (stackAddress (s.sp - 1)) := by decide

theorem witness_RtsReturnsAfterTheJsr :
    let s := { start with sp := 0x00, pc := 0xFFFE }
    ∃ t, s.isRam (stackAddress s.sp) ∧ s.isRam (stackAddress (s.sp - 1)) ∧ exec (.jsr 0x1234) s = .next t ∧
      t.sp = t.sp ∧ ∀ a ∈ [stackAddress s.sp, stackAddress (s.sp - 1)], t.readByte a = t.readByte a :=
  ⟨_, by decide, by decide, rfl, rfl, fun _ _ => rfl⟩

theorem witness_BitTestsAByteOfMemory : (Instr.bitAbs 0xFFFF).mnemonic = .bit := by decide

theorem witness_FlagsChangeOnlyWhereTheTableSays :
    (∃ t, exec (.incZp 0x10) start = .next t) ∧ (Instr.incZp 0x10).mnemonic ∉ flagWriters .c ∧
      (∃ t, exec .clc start = .next t) ∧ Instr.clc.mnemonic ∉ flagWriters .n :=
  ⟨⟨_, rfl⟩, by decide, ⟨_, rfl⟩, by decide⟩

theorem witness_RegistersChangeOnlyWhereTheRulesSay :
    (∃ t, exec (.aslZp 0x10) start = .next t) ∧ writesA (.aslZp 0x10) = false ∧ writesA .aslAcc = true ∧
      (Instr.aslZp 0x10).mnemonic ∉ xWriters ∧ (Instr.aslZp 0x10).mnemonic ∉ yWriters ∧
      (Instr.aslZp 0x10).mnemonic ∉ spWriters :=
  ⟨⟨_, rfl⟩, by decide, by decide, by decide, by decide, by decide⟩

theorem witness_MemoryChangesOnlyWhereAnInstructionStores :
    (∃ t, exec .brk start = .next t) ∧ start.storedAddresses .brk = [0x01FF, 0x01FE, 0x01FD] ∧
      (∃ t, exec (.incZp 0x10) start = .next t) ∧ start.storedAddresses (.incZp 0x10) = [0x0010] ∧
      (∃ t, exec (.ldaZp 0x10) start = .next t) ∧ start.storedAddresses (.ldaZp 0x10) = [] :=
  ⟨⟨_, rfl⟩, by decide, ⟨_, rfl⟩, by decide, ⟨_, rfl⟩, by decide⟩

theorem witness_CyclesFollowTheModeAndTheMarks :
    (Instr.bitZp 0x00).mnemonic ∈ [Mnemonic.adc, .and, .cmp, .cpx, .cpy, .eor, .lda, .ldx, .ldy, .ora, .sbc, .bit] ∧
      (Instr.staAbsX 0x12FF).mnemonic ∈ [Mnemonic.sta, .stx, .sty] ∧
      (Instr.decAbsX 0x12FF).mnemonic ∈ [Mnemonic.asl, .lsr, .rol, .ror, .inc, .dec] ∧
      (Instr.bvs 0x7F).operand = .relative 0x7F := by decide
end

namespace Sys2Proof.Machine

/-! ### The status byte (10_state.md R18, R19) -/

/-- The bits of the status byte are its seven flags, and bit 5 is set: one case for each choice of the seven. -/
theorem statusByte_bits : ∀ n v b d i z c : Bool,
    (statusByte n v b d i z c).getLsbD 7 = n ∧ (statusByte n v b d i z c).getLsbD 6 = v ∧
      (statusByte n v b d i z c).getLsbD 5 = true ∧ (statusByte n v b d i z c).getLsbD 4 = b ∧
      (statusByte n v b d i z c).getLsbD 3 = d ∧ (statusByte n v b d i z c).getLsbD 2 = i ∧
      (statusByte n v b d i z c).getLsbD 1 = z ∧ (statusByte n v b d i z c).getLsbD 0 = c := by
  decide

/-- Settles O12: the status byte of a state is that of its flags. -/
theorem statusByteHoldsTheFlags : Obligations.StatusByteHoldsTheFlags :=
  fun s b => statusByte_bits s.n s.v b s.d s.i s.z s.c

/-- Bytes that agree under a mask have the same bit wherever the mask has one. -/
theorem getLsbD_eq_of_masked_eq {v w mask : Byte} (h : v &&& mask = w &&& mask) {k : Nat}
    (hk : mask.getLsbD k = true) : v.getLsbD k = w.getLsbD k := by
  have hbit := congrArg (BitVec.getLsbD · k) h
  simpa only [BitVec.getLsbD_and, hk, Bool.and_true] using hbit

/-- The flags come from the six bits of the mask `$CF`; bits 5 and 4 are not read. -/
theorem State.setSR_congr (s : State) {v w : Byte} (h : v &&& 0xCF = w &&& 0xCF) : s.setSR v = s.setSR w := by
  have bit {k : Nat} (hk : (0xCF : Byte).getLsbD k = true) := getLsbD_eq_of_masked_eq h hk
  have h7 := bit (k := 7) (by decide)
  have h6 := bit (k := 6) (by decide)
  have h3 := bit (k := 3) (by decide)
  have h2 := bit (k := 2) (by decide)
  have h1 := bit (k := 1) (by decide)
  have h0 := bit (k := 0) (by decide)
  simp only [State.setSR, h7, h6, h3, h2, h1, h0]

/-- Pulling the status byte that `s` pushes gives the flags of `s`, whatever the break flag. -/
theorem State.setSR_srByte (s t : State) (b : Bool) :
    t.setSR (s.srByte b) = { t with n := s.n, v := s.v, d := s.d, i := s.i, z := s.z, c := s.c } := by
  obtain ⟨hn, hv, -, -, hd, hi, hz, hc⟩ := statusByte_bits s.n s.v b s.d s.i s.z s.c
  simp only [State.setSR, State.srByte, hn, hv, hd, hi, hz, hc]

/-- Settles O13: the first part is the definition of `setSR`. -/
theorem pulledStatusByteSetsTheSixFlags : Obligations.PulledStatusByteSetsTheSixFlags :=
  ⟨fun _ _ => rfl, fun s _ _ => s.setSR_congr, State.setSR_srByte⟩

/-! ### Canonical memories (10_state.md R23, 20_memory.md R40) -/

/-- The canonical form of a cell and what follows it. -/
theorem Memory.wfFrom_cons {lo k : Nat} {v : Byte} {m : Memory} :
    Memory.wfFrom lo ((k, v) :: m) = true ↔
      lo ≤ k ∧ k < Memory.size ∧ v ≠ Memory.unlisted ∧ Memory.wfFrom (k + 1) m = true := by
  simp only [Memory.wfFrom, Bool.and_eq_true, decide_eq_true_eq, and_assoc]

/-- A canonical memory is canonical from the address of its first cell on. -/
theorem Memory.wfFrom_head {lo k : Nat} {v : Byte} {m : Memory} (h : Memory.wfFrom lo ((k, v) :: m) = true) :
    Memory.wfFrom k ((k, v) :: m) = true :=
  Memory.wfFrom_cons.mpr ⟨le_rfl, (Memory.wfFrom_cons.mp h).2⟩

/-- A canonical memory lists nothing below its first address. -/
theorem Memory.read_below {lo a : Nat} {m : Memory} (h : Memory.wfFrom lo m = true) (ha : a < lo) :
    m.read a = Memory.unlisted := by
  induction m generalizing lo with
  | nil => rfl
  | cons cell m ih =>
    obtain ⟨k, v⟩ := cell
    obtain ⟨hlo, -, -, hm⟩ := Memory.wfFrom_cons.mp h
    have hk : k ≠ a := by omega
    simpa only [Memory.read, if_neg hk] using ih hm (by omega)

/-- The first address a canonical memory lists is one where it differs from every memory that lists only higher ones. -/
theorem Memory.read_head_ne {lo lo' k : Nat} {v : Byte} {m m' : Memory}
    (h : Memory.wfFrom lo ((k, v) :: m) = true) (h' : Memory.wfFrom lo' m' = true) (hlt : k < lo') :
    Memory.read ((k, v) :: m) k ≠ m'.read k := by
  obtain ⟨-, -, hv, -⟩ := Memory.wfFrom_cons.mp h
  simpa only [Memory.read, if_true, Memory.read_below h' hlt] using hv

/-- Canonical memories whose first cells lie at one address and that read alike have tails that read alike. -/
theorem Memory.read_tail_congr {lo k : Nat} {v v' : Byte} {m m' : Memory}
    (h : Memory.wfFrom lo ((k, v) :: m) = true) (h' : Memory.wfFrom lo ((k, v') :: m') = true) {a : Nat}
    (heq : Memory.read ((k, v) :: m) a = Memory.read ((k, v') :: m') a) : m.read a = m'.read a := by
  obtain ⟨-, -, -, hm⟩ := Memory.wfFrom_cons.mp h
  obtain ⟨-, -, -, hm'⟩ := Memory.wfFrom_cons.mp h'
  by_cases hk : k = a
  · have ha : a < k + 1 := by omega
    rw [Memory.read_below hm ha, Memory.read_below hm' ha]
  · simpa only [Memory.read, if_neg hk] using heq

/-- Extensionality of the canonical form, from any first address: the cells agree one by one. -/
theorem Memory.ext_of_wfFrom {lo : Nat} {m m' : Memory} (h : Memory.wfFrom lo m = true)
    (h' : Memory.wfFrom lo m' = true) (heq : ∀ a, a < Memory.size → m.read a = m'.read a) : m = m' := by
  induction m generalizing lo m' with
  | nil =>
    cases m' with
    | nil => rfl
    | cons cell' m' =>
      obtain ⟨k', v'⟩ := cell'
      obtain ⟨-, hsize, -, -⟩ := Memory.wfFrom_cons.mp h'
      exact absurd (heq k' hsize).symm (Memory.read_head_ne h' (lo' := k' + 1) (m' := []) rfl (by omega))
  | cons cell m ih =>
    obtain ⟨k, v⟩ := cell
    obtain ⟨-, hsize, -, hm⟩ := Memory.wfFrom_cons.mp h
    cases m' with
    | nil => exact absurd (heq k hsize) (Memory.read_head_ne h (lo' := k + 1) (m' := []) rfl (by omega))
    | cons cell' m' =>
      obtain ⟨k', v'⟩ := cell'
      obtain ⟨-, hsize', -, hm'⟩ := Memory.wfFrom_cons.mp h'
      rcases lt_trichotomy k k' with hlt | rfl | hgt
      · exact absurd (heq k hsize) (Memory.read_head_ne h (Memory.wfFrom_head h') hlt)
      · have hval : v = v' := by simpa only [Memory.read, if_true] using heq k hsize
        rw [hval, ih hm hm' fun a ha => Memory.read_tail_congr h h' (heq a ha)]
      · exact absurd (heq k' hsize').symm (Memory.read_head_ne h' (Memory.wfFrom_head h) hgt)

/-- Settles O22: the canonical form of the whole memory is that from address 0 on. -/
theorem canonicalMemoriesThatReadAlikeAreEqual : Obligations.CanonicalMemoriesThatReadAlikeAreEqual :=
  fun _ _ h h' heq => Memory.ext_of_wfFrom h h' heq

/-! ### The reset state (10_state.md R27) -/

/-- Settles O18: the initial values are those of the model's choice (log 3), and every part is read off the record. -/
theorem resetStateMeetsTheInvariant : Obligations.ResetStateMeetsTheInvariant :=
  ⟨rfl, ⟨InitialState.zeros, rfl⟩, rfl, rfl, rfl⟩

/-! ### The meaning of an instruction by its mnemonic

`exec` has an arm for each of the 151 rows of the table; the rows of one mnemonic differ in their operand alone. -/

/-- A conditional branch with its offset still in the operand (48_branch_jump.md R200). -/
def branchIf (cond : Bool) (o : Operand) (s : State) : State := if cond then opJump o s else s.advance o

/-- The state an instruction of mnemonic `m` with operand `o` answers. -/
def meaning (m : Mnemonic) (o : Operand) (s : State) : State :=
  match m with
  | .adc => opAdc o s
  | .sbc => opSbc o s
  | .and => opLogic (fun a m => a &&& m) o s
  | .eor => opLogic (fun a m => a ^^^ m) o s
  | .ora => opLogic (fun a m => a ||| m) o s
  | .asl => opShift aslResult o s
  | .lsr => opShift lsrResult o s
  | .rol => opShift rolResult o s
  | .ror => opShift rorResult o s
  | .cmp => opCompare s.a o s
  | .cpx => opCompare s.x o s
  | .cpy => opCompare s.y o s
  | .dec => opStep decremented o s
  | .inc => opStep incremented o s
  | .dex => ((s.setX (decremented s.x)).setNZ (decremented s.x)).advance o
  | .dey => ((s.setY (decremented s.y)).setNZ (decremented s.y)).advance o
  | .inx => ((s.setX (incremented s.x)).setNZ (incremented s.x)).advance o
  | .iny => ((s.setY (incremented s.y)).setNZ (incremented s.y)).advance o
  | .lda => opLda o s
  | .ldx => opLdx o s
  | .ldy => opLdy o s
  | .sta => opStore o s.a s
  | .stx => opStore o s.x s
  | .sty => opStore o s.y s
  | .tax => ((s.setX s.a).setNZ s.a).advance o
  | .tay => ((s.setY s.a).setNZ s.a).advance o
  | .tsx => ((s.setX s.sp).setNZ s.sp).advance o
  | .txa => ((s.setA s.x).setNZ s.x).advance o
  | .txs => (s.setSP s.x).advance o
  | .tya => ((s.setA s.y).setNZ s.y).advance o
  | .bcc => branchIf (!s.c) o s
  | .bcs => branchIf s.c o s
  | .bne => branchIf (!s.z) o s
  | .beq => branchIf s.z o s
  | .bpl => branchIf (!s.n) o s
  | .bmi => branchIf s.n o s
  | .bvc => branchIf (!s.v) o s
  | .bvs => branchIf s.v o s
  | .clc => (s.setC false).advance o
  | .cld => (s.setD false).advance o
  | .cli => (s.setI false).advance o
  | .clv => (s.setV false).advance o
  | .sec => (s.setC true).advance o
  | .sed => (s.setD true).advance o
  | .sei => (s.setI true).advance o
  | .pha => (s.push s.a).advance o
  | .php => (s.push (s.srByte true)).advance o
  | .pla => ((s.pull.2.setA s.pull.1).setNZ s.pull.1).advance o
  | .plp => (s.pull.2.setSR s.pull.1).advance o
  | .jmp => opJump o s
  | .jsr => opJump o (s.push16 (s.pc + 2))
  | .rts => s.pull16.2.setPC (s.pull16.1 + 1)
  | .brk => s.enterHandler (s.pc + 2) s.cfg.vecBrk true
  | .rti => s.leaveHandler
  | .bit => opBit o s
  | .nop => s.advance o

/-- What `exec` does with an instruction: it goes on, with the meaning of the mnemonic at the operand. -/
theorem exec_eq_meaning (i : Instr) (s : State) : exec i s = .next (meaning i.mnemonic i.operand s) := by
  cases i <;> rfl

/-! ### Footprints: what may change -/

/-- The four byte registers (10_state.md R10 to R12). -/
inductive Register
  | a | x | y | sp

/-- The value of a register. -/
def State.register (r : Register) (s : State) : Byte :=
  match r with
  | .a => s.a
  | .x => s.x
  | .y => s.y
  | .sp => s.sp

/-- What an operation may write: flags, registers, and addresses of memory. PC may always be written; the
configuration and the interrupt inputs never (10_state.md R24, R26). -/
structure Footprint where
  flag : Flag → Prop
  register : Register → Prop
  address : Word → Prop

/-- From `s` to `t` nothing changed outside `p`. The parts an operation leaves alone by definition need no proof. -/
structure Within (p : Footprint) (s t : State) : Prop where
  flags : ∀ f, ¬ p.flag f → t.flag f = s.flag f := by intro f _; cases f <;> rfl
  registers : ∀ r, ¬ p.register r → t.register r = s.register r := by intro r _; cases r <;> rfl
  memory : ∀ a, ¬ p.address a → t.readByte a = s.readByte a := by intros; rfl
  cfg : t.cfg = s.cfg := by rfl
  irqAsserted : t.irqAsserted = s.irqAsserted := by rfl
  nmiPending : t.nmiPending = s.nmiPending := by rfl

section
variable {p : Footprint} {s t u : State}

theorem Within.refl : Within p s s := {}

theorem Within.trans (h : Within p s t) (h' : Within p t u) : Within p s u where
  flags f hf := (h'.flags f hf).trans (h.flags f hf)
  registers r hr := (h'.registers r hr).trans (h.registers r hr)
  memory a ha := (h'.memory a ha).trans (h.memory a ha)
  cfg := h'.cfg.trans h.cfg
  irqAsserted := h'.irqAsserted.trans h.irqAsserted
  nmiPending := h'.nmiPending.trans h.nmiPending

/-! ### Each operation on the state stays within a footprint that allows what it writes -/

theorem setA_within (h : p.register .a) (v : Byte) : Within p s (s.setA v) where
  registers r hr := by cases r with
    | a => exact absurd h hr
    | _ => rfl

theorem setX_within (h : p.register .x) (v : Byte) : Within p s (s.setX v) where
  registers r hr := by cases r with
    | x => exact absurd h hr
    | _ => rfl

theorem setY_within (h : p.register .y) (v : Byte) : Within p s (s.setY v) where
  registers r hr := by cases r with
    | y => exact absurd h hr
    | _ => rfl

theorem setSP_within (h : p.register .sp) (v : Byte) : Within p s (s.setSP v) where
  registers r hr := by cases r with
    | sp => exact absurd h hr
    | _ => rfl

theorem setN_within (h : p.flag .n) (b : Bool) : Within p s (s.setN b) where
  flags f hf := by cases f with
    | n => exact absurd h hf
    | _ => rfl

theorem setV_within (h : p.flag .v) (b : Bool) : Within p s (s.setV b) where
  flags f hf := by cases f with
    | v => exact absurd h hf
    | _ => rfl

theorem setD_within (h : p.flag .d) (b : Bool) : Within p s (s.setD b) where
  flags f hf := by cases f with
    | d => exact absurd h hf
    | _ => rfl

theorem setI_within (h : p.flag .i) (b : Bool) : Within p s (s.setI b) where
  flags f hf := by cases f with
    | i => exact absurd h hf
    | _ => rfl

theorem setZ_within (h : p.flag .z) (b : Bool) : Within p s (s.setZ b) where
  flags f hf := by cases f with
    | z => exact absurd h hf
    | _ => rfl

theorem setC_within (h : p.flag .c) (b : Bool) : Within p s (s.setC b) where
  flags f hf := by cases f with
    | c => exact absurd h hf
    | _ => rfl

theorem setPC_within (w : Word) : Within p s (s.setPC w) := {}

theorem advance_within (o : Operand) : Within p s (s.advance o) := {}

theorem setNZ_within (h : p.flag .n ∧ p.flag .z) (r : Byte) : Within p s (s.setNZ r) :=
  (setN_within h.1 (negativeFlag r)).trans (setZ_within h.2 (zeroFlag r))

theorem setSR_within (h : ∀ f, p.flag f) (v : Byte) : Within p s (s.setSR v) where
  flags f hf := absurd (h f) hf

theorem setArith_within (ha : p.register .a) (h : p.flag .n ∧ p.flag .v ∧ p.flag .z ∧ p.flag .c)
    (r : ArithResult) : Within p s (s.setArith r) := by
  obtain ⟨hn, hv, hz, hc⟩ := h
  exact ((((setA_within ha r.r).trans (setN_within hn r.n)).trans (setV_within hv r.v)).trans
    (setZ_within hz r.z)).trans (setC_within hc r.c)

/-- A read after a write: the byte written where the address is that one and RAM, else the byte that was there. -/
theorem State.readByte_writeByte (s : State) (a w : Word) (b : Byte) :
    (s.writeByte w b).readByte a = if a = w ∧ s.isRam w then b else s.readByte a := by
  by_cases hram : s.isRam w
  · by_cases ha : a = w
    · subst ha
      simp [State.writeByte_eq, State.readByte, Memory.read_write, hram]
    · have hne : a.toNat ≠ w.toNat := fun h => ha (BitVec.eq_of_toNat_eq h)
      simp [State.writeByte_eq, State.readByte, Memory.read_write, hram, ha, hne]
  · simp [State.writeByte_eq, hram]

theorem writeByte_within {w : Word} (h : p.address w) (b : Byte) : Within p s (s.writeByte w b) where
  flags f _ := by cases f <;> simp [State.flag]
  registers r _ := by cases r <;> simp [State.register]
  memory a ha := by
    have hne : a ≠ w := fun haw => ha (haw ▸ h)
    rw [State.readByte_writeByte, if_neg fun hw => hne hw.1]
  cfg := by simp
  irqAsserted := by simp
  nmiPending := by simp

theorem storeOperand_within {o : Operand} (ha : o = .accumulator → p.register .a)
    (hm : ∀ ea ∈ s.effectiveAddress o, p.address ea) (b : Byte) : Within p s (s.storeOperand o b) := by
  rw [State.storeOperand_eq]
  split_ifs with ho
  · exact setA_within (ha ho) b
  · cases hea : s.effectiveAddress o with
    | none => exact .refl
    | some ea => exact writeByte_within (hm ea hea) b

theorem push_within (hsp : p.register .sp) (hm : p.address (stackAddress s.sp)) (b : Byte) : Within p s (s.push b) :=
  (writeByte_within hm b).trans (setSP_within hsp _)

theorem pull_within (hsp : p.register .sp) : Within p s s.pull.2 := setSP_within hsp _

theorem push16_within (hsp : p.register .sp)
    (hm : p.address (stackAddress s.sp) ∧ p.address (stackAddress (s.sp - 1))) (w : Word) : Within p s (s.push16 w) :=
  (push_within hsp hm.1 _).trans (push_within hsp hm.2 _)

theorem pull16_within (hsp : p.register .sp) : Within p s s.pull16.2 := (pull_within hsp).trans (pull_within hsp)

theorem State.push16_sp (w : Word) (s : State) : (s.push16 w).sp = s.sp - 2 := by
  rw [State.push16_eq]

theorem enterHandler_within (hsp : p.register .sp) (hi : p.flag .i)
    (hm : p.address (stackAddress s.sp) ∧ p.address (stackAddress (s.sp - 1)) ∧ p.address (stackAddress (s.sp - 2)))
    (ret vector : Word) (b : Bool) : Within p s (s.enterHandler ret vector b) := by
  obtain ⟨hm0, hm1, hm2⟩ := hm
  have third : p.address (stackAddress (s.push16 ret).sp) := by rwa [State.push16_sp]
  exact (((push16_within hsp ⟨hm0, hm1⟩ ret).trans (push_within hsp third _)).trans (setI_within hi true)).trans
    (setPC_within _)

theorem leaveHandler_within (hsp : p.register .sp) (h : ∀ f, p.flag f) : Within p s s.leaveHandler :=
  (((pull_within hsp).trans (setSR_within h _)).trans (pull16_within hsp)).trans (setPC_within _)

/-! ### So does each operation that instructions share -/

/-- The shape of the loads, the transfers and the register counts: a register is written and N and Z follow. -/
theorem Within.setNZ_advance (h : Within p s t) (hnz : p.flag .n ∧ p.flag .z) (r : Byte) (o : Operand) :
    Within p s ((t.setNZ r).advance o) :=
  (h.trans (setNZ_within hnz r)).trans (advance_within o)

theorem opShift_within (hnz : p.flag .n ∧ p.flag .z) (hc : p.flag .c) {o : Operand}
    (ha : o = .accumulator → p.register .a) (hm : ∀ ea ∈ s.effectiveAddress o, p.address ea)
    (f : Byte → Bool → ShiftResult) : Within p s (opShift f o s) := by
  have same (b : Bool) : (s.setC b).effectiveAddress o = s.effectiveAddress o :=
    State.effectiveAddress_congr rfl rfl rfl rfl rfl o
  exact ((setC_within hc _).trans (storeOperand_within ha (by rwa [same]) _)).setNZ_advance hnz _ o

theorem opStep_within (hnz : p.flag .n ∧ p.flag .z) {o : Operand} (ha : o = .accumulator → p.register .a)
    (hm : ∀ ea ∈ s.effectiveAddress o, p.address ea) (f : Byte → Byte) : Within p s (opStep f o s) :=
  (storeOperand_within ha hm _).setNZ_advance hnz _ o

theorem opStore_within {o : Operand} (ha : o = .accumulator → p.register .a)
    (hm : ∀ ea ∈ s.effectiveAddress o, p.address ea) (b : Byte) : Within p s (opStore o b s) :=
  (storeOperand_within ha hm b).trans (advance_within o)

theorem opCompare_within (hnz : p.flag .n ∧ p.flag .z) (hc : p.flag .c) (reg : Byte) (o : Operand) :
    Within p s (opCompare reg o s) :=
  (((setN_within hnz.1 _).trans (setZ_within hnz.2 _)).trans (setC_within hc _)).trans (advance_within o)

theorem opBit_within (hnz : p.flag .n ∧ p.flag .z) (hv : p.flag .v) (o : Operand) : Within p s (opBit o s) :=
  (((setN_within hnz.1 _).trans (setV_within hv _)).trans (setZ_within hnz.2 _)).trans (advance_within o)

theorem opJump_within (o : Operand) : Within p s (opJump o s) := by
  simp only [opJump]
  split
  · exact setPC_within _
  · exact .refl

theorem branchIf_within (cond : Bool) (o : Operand) : Within p s (branchIf cond o s) := by
  simp only [branchIf]
  split_ifs
  · exact opJump_within o
  · exact advance_within o

end

/-! ### The footprint of an instruction, as the spec's tables give it -/

/-- What the tables of 10_state.md R10 to R12, R21 and R26 let an instruction write. -/
def footprint (i : Instr) (s : State) : Footprint where
  flag f := i.mnemonic ∈ flagWriters f
  register
    | .a => writesA i = true
    | .x => i.mnemonic ∈ xWriters
    | .y => i.mnemonic ∈ yWriters
    | .sp => i.mnemonic ∈ spWriters
  address a := a ∈ s.storedAddresses i

section
variable {i : Instr} {m : Mnemonic} (s : State)

theorem footprint_flag {f : Flag} (hm : i.mnemonic = m) (h : m ∈ flagWriters f) : (footprint i s).flag f := by
  subst hm; exact h

theorem footprint_flag_nz (hm : i.mnemonic = m) (h : m ∈ resultWriters) :
    (footprint i s).flag .n ∧ (footprint i s).flag .z :=
  ⟨footprint_flag s hm h, footprint_flag s hm h⟩

theorem footprint_register_x (hm : i.mnemonic = m) (h : m ∈ xWriters) : (footprint i s).register .x := by
  subst hm; exact h

theorem footprint_register_y (hm : i.mnemonic = m) (h : m ∈ yWriters) : (footprint i s).register .y := by
  subst hm; exact h

theorem footprint_register_sp (hm : i.mnemonic = m) (h : m ∈ spWriters) : (footprint i s).register .sp := by
  subst hm; exact h

theorem footprint_register_a (hm : i.mnemonic = m)
    (h : m ∈ [Mnemonic.adc, .and, .eor, .lda, .ora, .pla, .sbc, .txa, .tya]) :
    (footprint i s).register .a := by
  subst hm
  simp only [footprint, writesA, h, decide_true, Bool.true_or]

/-- ASL, LSR, ROL and ROR write A in accumulator mode. -/
theorem footprint_register_a_of_accumulator (h : i.operand = .accumulator) : (footprint i s).register .a := by
  simp only [footprint, writesA, h, decide_true, Bool.or_true]

/-- The stores and the read-modify-write instructions store at the effective address. -/
theorem footprint_address_of_operand (hm : i.mnemonic = m)
    (h : m ∈ [Mnemonic.sta, .stx, .sty, .inc, .dec, .asl, .lsr, .rol, .ror]) :
    ∀ ea ∈ s.effectiveAddress i.operand, (footprint i s).address ea := by
  intro ea hea
  have stored : s.storedAddresses i = s.operandAddress i.operand := by
    simp only [List.mem_cons, List.not_mem_nil, or_false] at h
    rcases h with rfl | rfl | rfl | rfl | rfl | rfl | rfl | rfl | rfl <;> simp only [State.storedAddresses, hm]
  change ea ∈ s.storedAddresses i
  rw [stored]
  exact Option.mem_toList.mpr hea

end

/-- Every instruction stays within its footprint: one case for each operation that mnemonics share. -/
theorem meaning_within (i : Instr) (s : State) : Within (footprint i s) s (meaning i.mnemonic i.operand s) := by
  have acc := footprint_register_a_of_accumulator (i := i) s
  cases hm : i.mnemonic with
  | adc | sbc =>
    exact (setArith_within (footprint_register_a s hm (by decide))
      ⟨footprint_flag s hm (by decide), footprint_flag s hm (by decide), footprint_flag s hm (by decide),
        footprint_flag s hm (by decide)⟩ _).trans (advance_within _)
  | and | eor | ora | lda | txa | tya =>
    exact (setA_within (footprint_register_a s hm (by decide)) _).setNZ_advance (footprint_flag_nz s hm (by decide)) _ _
  | ldx | tax | tsx | dex | inx =>
    exact (setX_within (footprint_register_x s hm (by decide)) _).setNZ_advance (footprint_flag_nz s hm (by decide)) _ _
  | ldy | tay | dey | iny =>
    exact (setY_within (footprint_register_y s hm (by decide)) _).setNZ_advance (footprint_flag_nz s hm (by decide)) _ _
  | asl | lsr | rol | ror =>
    exact opShift_within (footprint_flag_nz s hm (by decide)) (footprint_flag s hm (by decide)) acc
      (footprint_address_of_operand s hm (by decide)) _
  | dec | inc =>
    exact opStep_within (footprint_flag_nz s hm (by decide)) acc (footprint_address_of_operand s hm (by decide)) _
  | sta | stx | sty => exact opStore_within acc (footprint_address_of_operand s hm (by decide)) _
  | cmp | cpx | cpy =>
    exact opCompare_within (footprint_flag_nz s hm (by decide)) (footprint_flag s hm (by decide)) _ _
  | bit => exact opBit_within (footprint_flag_nz s hm (by decide)) (footprint_flag s hm (by decide)) _
  | bcc | bcs | bne | beq | bpl | bmi | bvc | bvs => exact branchIf_within _ _
  | clc | sec => exact (setC_within (footprint_flag s hm (by decide)) _).trans (advance_within _)
  | cld | sed => exact (setD_within (footprint_flag s hm (by decide)) _).trans (advance_within _)
  | cli | sei => exact (setI_within (footprint_flag s hm (by decide)) _).trans (advance_within _)
  | clv => exact (setV_within (footprint_flag s hm (by decide)) _).trans (advance_within _)
  | txs => exact (setSP_within (footprint_register_sp s hm (by decide)) _).trans (advance_within _)
  | nop => exact advance_within _
  | pha | php =>
    exact (push_within (footprint_register_sp s hm (by decide))
      (by simp [footprint, State.storedAddresses, hm]) _).trans (advance_within _)
  | pla =>
    exact ((pull_within (footprint_register_sp s hm (by decide))).trans
      (setA_within (footprint_register_a s hm (by decide)) _)).setNZ_advance (footprint_flag_nz s hm (by decide)) _ _
  | plp =>
    have allFlags (f : Flag) := footprint_flag (f := f) s hm (by cases f <;> decide)
    exact ((pull_within (footprint_register_sp s hm (by decide))).trans (setSR_within allFlags _)).trans
      (advance_within _)
  | jmp => exact opJump_within _
  | jsr =>
    exact (push16_within (footprint_register_sp s hm (by decide))
      (by simp [footprint, State.storedAddresses, hm]) _).trans (opJump_within _)
  | rts => exact (pull16_within (footprint_register_sp s hm (by decide))).trans (setPC_within _)
  | brk =>
    exact enterHandler_within (footprint_register_sp s hm (by decide)) (footprint_flag s hm (by decide))
      (by simp [footprint, State.storedAddresses, hm]) _ _ _
  | rti =>
    have allFlags (f : Flag) := footprint_flag (f := f) s hm (by cases f <;> decide)
    exact leaveHandler_within (footprint_register_sp s hm (by decide)) allFlags

theorem exec_within {i : Instr} {s t : State} (h : exec i s = .next t) : Within (footprint i s) s t := by
  rw [exec_eq_meaning] at h
  cases h
  exact meaning_within i s

/-- Settles O56, from the flags outside the footprint. -/
theorem flagsChangeOnlyWhereTheTableSays : Obligations.FlagsChangeOnlyWhereTheTableSays :=
  fun _ _ _ f h hf => (exec_within h).flags f hf

/-- Settles O57, from the registers outside the footprint and the inputs no footprint allows. -/
theorem registersChangeOnlyWhereTheRulesSay : Obligations.RegistersChangeOnlyWhereTheRulesSay := by
  intro i s t h
  have frame := exec_within h
  refine ⟨fun ha => frame.registers .a ?_, frame.registers .x, frame.registers .y, frame.registers .sp, frame.cfg,
    frame.irqAsserted, frame.nmiPending⟩
  simp [footprint, ha]

/-- Settles O58, from the addresses outside the footprint. -/
theorem memoryChangesOnlyWhereAnInstructionStores : Obligations.MemoryChangesOnlyWhereAnInstructionStores :=
  fun _ _ _ h => (exec_within h).memory

/-! ### One step and the environment's inputs (10_state.md R24) -/

/-- What a step that goes on did: it took the interrupt entry, or it decoded and ran one instruction. -/
theorem step_next_cases {s t : State} (h : step s = .next t) :
    s.pendingEntry = some t ∨
      (s.pendingEntry = none ∧ ∃ i rest, decode s.fetchBytes = .ok i rest ∧ exec i s = .next t) := by
  simp only [step] at h
  cases he : s.pendingEntry with
  | some u =>
    simp only [he, Host.Outcome.next.injEq] at h
    exact .inl (congrArg some h)
  | none =>
    simp only [he] at h
    cases hd : decode s.fetchBytes with
    | ok i rest => exact .inr ⟨rfl, i, rest, rfl, by simpa only [hd] using h⟩
    | error e => simp only [hd, reduceCtorEq] at h

/-- A pending NMI is always taken. -/
theorem State.nmiPending_of_pendingEntry_none {s : State} (h : s.pendingEntry = none) : s.nmiPending = false := by
  cases hn : s.nmiPending with
  | false => rfl
  | true => simp [State.pendingEntry, hn] at h

/-- An interrupt entry leaves the configuration and the inputs as they were. -/
theorem State.takeInterrupt_inputs (vector : Word) (b : Bool) (s : State) :
    (s.takeInterrupt vector b).cfg = s.cfg ∧ (s.takeInterrupt vector b).irqAsserted = s.irqAsserted ∧
      (s.takeInterrupt vector b).nmiPending = s.nmiPending := by
  rw [State.takeInterrupt, State.enterHandler_eq]
  exact ⟨rfl, rfl, rfl⟩

/-- Settles O23: the NMI entry starts from the cleared latch, and without a pending NMI the latch was clear already. -/
theorem stepsLeaveTheInputsToTheEnvironment : Obligations.StepsLeaveTheInputsToTheEnvironment := by
  intro s t h
  rcases step_next_cases h with he | ⟨he, i, rest, -, hx⟩
  · rcases State.pendingEntry_cases he with ⟨-, rfl⟩ | ⟨hn, -, -, rfl⟩
    · exact State.takeInterrupt_inputs s.cfg.vecNmi false (s.setNmi false)
    · obtain ⟨hcfg, hirq, hnmi⟩ := State.takeInterrupt_inputs s.cfg.vecIrq false s
      exact ⟨hcfg, hirq, hnmi.trans hn⟩
  · have frame := exec_within hx
    exact ⟨frame.cfg, frame.irqAsserted, frame.nmiPending.trans (State.nmiPending_of_pendingEntry_none he)⟩

end Sys2Proof.Machine

namespace Sys2Proof.Machine

/-! ### The invariant (20_memory.md R40, R51) -/

/-- A jump writes no memory. -/
theorem opJump_mem (o : Operand) (s : State) : (opJump o s).mem = s.mem := by
  simp only [opJump]
  split <;> rfl

theorem branchIf_mem (cond : Bool) (o : Operand) (s : State) : (branchIf cond o s).mem = s.mem := by
  cases cond with
  | true => exact opJump_mem o s
  | false => rfl

/-- A shift keeps memory canonical, the carry being written before the operand. -/
theorem opShift_inv {s : State} (f : Byte → Bool → ShiftResult) (o : Operand) (h : s.Inv) : (opShift f o s).Inv :=
  State.storeOperand_wf (s := s.setC (f (s.loadOperand o) s.c).c) o _ h

/-- Every instruction keeps memory canonical: what writes memory does it through an operand, a push or handler entry. -/
theorem meaning_inv {s : State} (m : Mnemonic) (o : Operand) (h : s.Inv) : (meaning m o s).Inv := by
  cases m with
  | sta | stx | sty | dec | inc => exact State.storeOperand_wf o _ h
  | asl | lsr | rol | ror => exact opShift_inv _ o h
  | pha | php => exact State.push_wf _ h
  | jsr => exact (congrArg Memory.wf (opJump_mem o _)).trans (State.push16_wf _ h)
  | brk => exact State.enterHandler_wf _ _ _ h
  | jmp => exact (congrArg Memory.wf (opJump_mem o s)).trans h
  | bcc | bcs | bne | beq | bpl | bmi | bvc | bvs => exact (congrArg Memory.wf (branchIf_mem _ o s)).trans h
  | _ => exact h

/-- An interrupt entry keeps memory canonical. -/
theorem State.pendingEntry_inv {s t : State} (h : s.Inv) (he : s.pendingEntry = some t) : t.Inv := by
  rcases State.pendingEntry_cases he with ⟨-, rfl⟩ | ⟨-, -, -, rfl⟩
  · exact State.enterHandler_wf (s := s.setNmi false) _ _ _ h
  · exact State.enterHandler_wf _ _ _ h

/-- Settles O20: a step is an interrupt entry or one instruction. -/
theorem everyStepKeepsMemoryCanonical : Obligations.EveryStepKeepsMemoryCanonical := by
  intro s t h hstep
  rcases step_next_cases hstep with he | ⟨-, i, rest, -, hx⟩
  · exact State.pendingEntry_inv h he
  · rw [exec_eq_meaning] at hx
    cases hx
    exact meaning_inv i.mnemonic i.operand h

/-! ### Writing one byte (20_memory.md R51) -/

/-- A write where there is no RAM changes nothing. -/
theorem State.writeByte_of_not_ram {s : State} {a : Word} (h : ¬ s.isRam a) (v : Byte) : s.writeByte a v = s := by
  rw [State.writeByte_eq, if_neg h]

theorem State.readByte_of_unpopulated {s : State} {a : Word} {reads : Byte}
    (h : s.cfg.kindAt a.toNat = .unpopulated reads) : s.readByte a = reads := by
  simp only [State.readByte, h]

/-- Settles O19: a write changes memory alone, and that only where there is RAM. -/
theorem readAfterWriteFollowsTheMemoryMap : Obligations.ReadAfterWriteFollowsTheMemoryMap := by
  intro s a b v
  have frame : { s.writeByte a v with mem := s.mem } = s := by rw [State.writeByte_eq]
  exact ⟨s.readByte_writeByte b a v, frame, fun h => State.writeByte_of_not_ram h v,
    fun _ => State.readByte_of_unpopulated⟩

/-! ### Pushing and pulling one byte (20_memory.md R46 to R48) -/

/-- A read after a push: the byte pushed where the address is the stack byte SP named and RAM, else the byte that was
there. -/
theorem State.readByte_push (s : State) (v : Byte) (a : Word) :
    (s.push v).readByte a =
      if a = stackAddress s.sp ∧ s.isRam (stackAddress s.sp) then v else s.readByte a :=
  s.readByte_writeByte a (stackAddress s.sp) v

@[simp] theorem State.push_sp (s : State) (v : Byte) : (s.push v).sp = s.sp - 1 := rfl

@[simp] theorem State.push_cfg (s : State) (v : Byte) : (s.push v).cfg = s.cfg :=
  State.writeByte_cfg _ v s

theorem State.push_isRam (s : State) (v : Byte) (a : Word) : (s.push v).isRam a ↔ s.isRam a := by
  simp only [State.isRam, State.push_cfg]

/-- A push writes one byte of memory, at the stack byte SP names. -/
theorem State.push_wroteByte (s : State) (v : Byte) : WroteByte (stackAddress s.sp) v s (s.push v) := by
  refine ⟨fun a ha => ?_, fun hram => ?_, fun hrom => ?_⟩
  · rw [State.readByte_push, if_neg fun h => ha h.1]
  · rw [State.readByte_push, if_pos ⟨rfl, hram⟩]
  · rw [State.readByte_push, if_neg fun h => hrom h.2]

/-- The stack address in numbers: `$0100 + p`. -/
theorem stackAddress_eq_ofNat (p : Byte) : stackAddress p = BitVec.ofNat 16 (0x0100 + p.toNat) := by
  apply BitVec.eq_of_toNat_eq
  rw [stackAddress_toNat, BitVec.toNat_ofNat]
  omega

/-- The byte a pull reads lies at `$0100 + (SP + 1) mod 256`. -/
theorem stackAddress_succ_eq_ofNat (p : Byte) :
    stackAddress (p + 1) = BitVec.ofNat 16 (0x0100 + (p.toNat + 1) % 256) := by
  rw [stackAddress_eq_ofNat, BitVec.toNat_add]
  rfl

theorem State.pull_eq (s : State) :
    s.pull = (s.readByte (stackAddress (s.sp + 1)), { s with sp := s.sp + 1 }) := rfl

/-- Settles O24: the stack address, in numbers. -/
theorem pushAndPullMoveOneStackByte : Obligations.PushAndPullMoveOneStackByte := by
  refine ⟨fun s v => ⟨?_, ?_⟩, fun s => ?_⟩
  · rw [State.push_eq]
  · rw [← stackAddress_eq_ofNat]
    exact s.push_wroteByte v
  · rw [State.pull_eq, stackAddress_succ_eq_ofNat]

/-- Every stack byte lies in page one. -/
theorem stackAddress_in_page_one (p : Byte) : 0x0100 ≤ (stackAddress p).toNat ∧ (stackAddress p).toNat ≤ 0x01FF := by
  have := p.isLt
  rw [stackAddress_toNat]
  omega

/-- A push changes no byte but the one SP names. -/
theorem State.eq_stackAddress_of_push_changes {s : State} {v : Byte} {a : Word}
    (h : (s.push v).readByte a ≠ s.readByte a) : a = stackAddress s.sp := by
  by_contra hne
  exact h (by rw [State.readByte_push, if_neg fun hat => hne hat.1])

/-- Settles O25: the wraps are those of SP modulo 256, and every stack byte lies in the page. -/
theorem stackWrapsInsidePageOne : Obligations.StackWrapsInsidePageOne := by
  have bottom : stackAddress 0x00 = 0x0100 := by decide
  refine ⟨fun s v hsp => ⟨?_, ?_⟩, fun s hsp => ?_, fun s v a h => ?_⟩
  · rw [State.push_sp, hsp]
    decide
  · rw [← bottom, ← hsp]
    exact s.push_wroteByte v
  · have wrap : s.sp + 1 = 0x00 := by rw [hsp]; decide
    rw [State.pull_eq, wrap, bottom]
  · rw [State.eq_stackAddress_of_push_changes h]
    exact stackAddress_in_page_one s.sp

/-! ### Sixteen-bit values (20_memory.md R43, R49) -/

theorem word_toNat_eq_bytes (w : Word) : w.toNat = (lowByte w).toNat + 256 * (highByte w).toNat := by
  rw [← operandWord_toNat, operandWord_lowByte_highByte]

/-- The stack byte below another lies elsewhere, across the wrap too. -/
theorem stackAddress_ne_pred (p : Byte) : stackAddress p ≠ stackAddress (p - 1) := by
  intro h
  have := stackAddress_injective h
  bv_omega

/-- The high byte of a pushed word: the second push leaves it alone. -/
theorem State.readByte_push16_high {s : State} (w : Word) (hram : s.isRam (stackAddress s.sp)) :
    (s.push16 w).readByte (stackAddress s.sp) = highByte w := by
  rw [State.push16, State.readByte_push, State.push_sp, if_neg fun hat => stackAddress_ne_pred s.sp hat.1,
    State.readByte_push, if_pos ⟨rfl, hram⟩]

/-- The low byte of a pushed word lies one below the high byte. -/
theorem State.readByte_push16_low {s : State} (w : Word) (hram : s.isRam (stackAddress (s.sp - 1))) :
    (s.push16 w).readByte (stackAddress (s.sp - 1)) = lowByte w := by
  rw [State.push16, State.readByte_push, State.push_sp, if_pos ⟨rfl, (s.push_isRam _ _).mpr hram⟩]

/-- Pulling a word reads the two stack bytes above SP, the low byte first, and moves SP up by two. -/
theorem State.pull16_eq (s : State) :
    s.pull16 = (operandWord (s.readByte (stackAddress (s.sp + 1))) (s.readByte (stackAddress (s.sp + 1 + 1))),
      { s with sp := s.sp + 1 + 1 }) := rfl

/-- Pulling a word that was pushed to RAM gives it back, and SP with it. -/
theorem State.pull16_push16 {s : State} (w : Word) (hhigh : s.isRam (stackAddress s.sp))
    (hlow : s.isRam (stackAddress (s.sp - 1))) : (s.push16 w).pull16 = (w, { s.push16 w with sp := s.sp }) := by
  have one : (s.push16 w).sp + 1 = s.sp - 1 := by rw [State.push16_sp]; bv_omega
  have two : s.sp - 1 + 1 = s.sp := BitVec.sub_add_cancel s.sp 1
  rw [State.pull16_eq, one, two, State.readByte_push16_low w hlow, State.readByte_push16_high w hhigh,
    operandWord_lowByte_highByte]

/-- Settles O26: the byte order of operands is that of `operandWord`; on the stack the high byte is pushed first. -/
theorem sixteenBitValuesAreLittleEndian : Obligations.SixteenBitValuesAreLittleEndian :=
  ⟨operandWord_toNat, fun w => ⟨operandWord_lowByte_highByte w, word_toNat_eq_bytes w⟩, fun _ _ => rfl,
    fun s w hhigh hlow => ⟨State.readByte_push16_high w hhigh, State.readByte_push16_low w hlow, State.push16_sp w s,
      State.pull16_push16 w hhigh hlow⟩⟩

end Sys2Proof.Machine

namespace Sys2Proof

/-! ### An operand and its bytes (30_encoding.md R70 to R72) -/

/-- The operand in mode `m` that the two bytes after the opcode write; the bytes beyond the mode's length play no part. -/
def Mode.operand (m : Mode) (b1 b2 : Byte) : Operand :=
  match m with
  | .implied => .implied
  | .accumulator => .accumulator
  | .immediate => .immediate b1
  | .zeropage => .zeropage b1
  | .zeropageX => .zeropageX b1
  | .zeropageY => .zeropageY b1
  | .absolute => .absolute (operandWord b1 b2)
  | .absoluteX => .absoluteX (operandWord b1 b2)
  | .absoluteY => .absoluteY (operandWord b1 b2)
  | .relative => .relative b1
  | .indirectX => .indirectX b1
  | .indirectY => .indirectY b1
  | .indirect => .indirect (operandWord b1 b2)

theorem Operand.bytes_length (o : Operand) : o.bytes.length = o.mode.length - 1 := by cases o <;> rfl

theorem encode_length (i : Instr) : (encode i).length = i.length := by
  have pos := (Laws.mode_length_bounds i.operand.mode).1
  rw [encode, List.length_cons, Operand.bytes_length, Instr.length]
  omega

/-- The bytes of an operand, with any bytes after them, write that operand. -/
theorem Operand.mode_operand_bytes (o : Operand) (rest : List Byte) :
    o.mode.operand ((o.bytes ++ rest).getD 0 0) ((o.bytes ++ rest).getD 1 0) = o := by
  cases o with
  | absolute w | absoluteX w | absoluteY w | indirect w =>
    simp [Operand.mode, Mode.operand, Operand.bytes]
  | _ => rfl

/-- The operand that bytes write has the first of those bytes, as many as its mode has. -/
theorem Mode.operand_bytes (m : Mode) (bs : List Byte) (h : m.length ≤ bs.length + 1) :
    (m.operand (bs.getD 0 0) (bs.getD 1 0)).bytes = bs.take (m.length - 1) := by
  match bs, h with
  | [], h | [_], h | _ :: _ :: _, h =>
    cases m <;> simp_all [Mode.operand, Operand.bytes, Mode.length]

/-! ### The instruction an opcode byte names (30_encoding.md R71, R75) -/

/-- An opcode names its mnemonic and mode, and the bytes after it write the operand. -/
theorem decodeOpcode_opcode (i : Instr) (b1 b2 : Byte) :
    ∃ j, decodeOpcode i.opcode b1 b2 = some j ∧ j.mnemonic = i.mnemonic ∧ j.opcode = i.opcode ∧
      j.operand = i.operand.mode.operand b1 b2 := by
  have read : (decodeOpcode i.opcode b1 b2).map (fun j => (j.mnemonic, j.opcode, j.operand)) =
      some (i.mnemonic, i.opcode, i.operand.mode.operand b1 b2) := by
    cases i <;> dsimp only [Instr.opcode] <;> rfl
  simpa only [Option.map_eq_some_iff, Prod.mk.injEq] using read

/-- Where the bytes write the operand of the instruction, its opcode decodes to the instruction itself. -/
theorem decodeOpcode_opcode_self (i : Instr) (b1 b2 : Byte) (h : i.operand = i.operand.mode.operand b1 b2) :
    decodeOpcode i.opcode b1 b2 = some i := by
  cases i <;> cases h <;> dsimp only [Instr.opcode] <;> rfl

/-! ### Decoding a list of bytes (30_encoding.md R70) -/

/-- When decoding succeeds: the opcode is listed, the bytes of the instruction are all there, and what follows them is the
rest. -/
theorem decode_cons_eq_ok_iff {op : Byte} {bs rest : List Byte} {i : Instr} :
    decode (op :: bs) = .ok i rest ↔
      decodeOpcode op (bs.getD 0 0) (bs.getD 1 0) = some i ∧ i.length ≤ bs.length + 1 ∧
        bs.drop (i.length - 1) = rest := by
  rw [decode]
  cases decodeOpcode op (bs.getD 0 0) (bs.getD 1 0) with
  | none => simp
  | some j =>
    by_cases hlen : bs.length + 1 < j.length
    · simp only [hlen, if_true, reduceCtorEq, Option.some.injEq, false_iff]
      rintro ⟨rfl, hle, -⟩
      omega
    · simp only [hlen, if_false, DecodeResult.ok.injEq, Option.some.injEq]
      constructor
      · rintro ⟨rfl, rfl⟩
        exact ⟨rfl, by omega, rfl⟩
      · rintro ⟨rfl, -, rfl⟩
        exact ⟨rfl, rfl⟩

/-- Decoding inverts encoding, whatever bytes follow. -/
theorem decode_encode (i : Instr) (rest : List Byte) : decode (encode i ++ rest) = .ok i rest := by
  have hlen : i.operand.bytes.length = i.length - 1 := i.operand.bytes_length
  refine decode_cons_eq_ok_iff.mpr ⟨?_, ?_, List.drop_left' hlen⟩
  · exact decodeOpcode_opcode_self i _ _ (i.operand.mode_operand_bytes rest).symm
  · change i.length ≤ (i.operand.bytes ++ rest).length + 1
    rw [List.length_append, hlen]
    omega

/-- Where the first byte is not listed, decoding names it. -/
theorem decode_cons_eq_unlistedOpcode {op : Byte} {bs : List Byte}
    (h : decodeOpcode op (bs.getD 0 0) (bs.getD 1 0) = none) : decode (op :: bs) = .error (.unlistedOpcode op) := by
  simp only [decode, h]

end Sys2Proof

namespace Sys2Proof.Machine

/-! ### The instructions and the rows of the opcode table (30_encoding.md R75) -/

/-- Every instruction has its row under its mnemonic. -/
theorem rowOf_mem_specRows (i : Instr) : rowOf i ∈ specRows i.mnemonic := by
  cases i <;> exact of_decide_eq_true rfl

/-- What holds of every row of the table holds of the row of every instruction. -/
theorem forall_instr_of_specRows {P : Mnemonic → TableRow → Prop} (h : ∀ m, ∀ row ∈ specRows m, P m row) (i : Instr) :
    P i.mnemonic (rowOf i) :=
  h i.mnemonic (rowOf i) (rowOf_mem_specRows i)

/-- The opcode of a row decodes to an instruction of that row. -/
theorem decodeOpcode_of_specRow {m : Mnemonic} {row : TableRow} (h : row ∈ specRows m) :
    ∃ i, decodeOpcode row.opcode 0 0 = some i ∧ i.mnemonic = m ∧ rowOf i = row := by
  have decoded : ∀ row ∈ specRows m, ∃ i ∈ decodeOpcode row.opcode 0 0, i.mnemonic = m ∧ rowOf i = row := by
    cases m <;> decide
  exact decoded row h

/-- So a row's opcode determines the row and the mnemonic it stands under. -/
theorem specRow_unique {m m' : Mnemonic} {row row' : TableRow} (h : row ∈ specRows m) (h' : row' ∈ specRows m')
    (hop : row.opcode = row'.opcode) : m = m' ∧ row = row' := by
  obtain ⟨i, hi, rfl, rfl⟩ := decodeOpcode_of_specRow h
  obtain ⟨j, hj, rfl, rfl⟩ := decodeOpcode_of_specRow h'
  rw [hop, hj] at hi
  cases hi
  exact ⟨rfl, rfl⟩

theorem allMnemonics_nodup : allMnemonics.Nodup := by decide

theorem specRows_nodup (m : Mnemonic) : (specRows m).Nodup := by cases m <;> decide

/-- No row stands under two mnemonics, and none stands twice under one. -/
theorem specOpcodeTable_nodup : specOpcodeTable.Nodup := by
  refine List.nodup_flatMap.mpr ⟨fun m _ => specRows_nodup m, allMnemonics_nodup.imp fun hne row h h' => ?_⟩
  exact hne (specRow_unique h h' rfl).1

/-- No opcode stands in two rows. -/
theorem specOpcodeTable_opcodes_nodup : (specOpcodeTable.map TableRow.opcode).Nodup := by
  refine List.Nodup.map_on (fun row h row' h' hop => ?_) specOpcodeTable_nodup
  obtain ⟨m, -, hm⟩ := List.mem_flatMap.mp h
  obtain ⟨m', -, hm'⟩ := List.mem_flatMap.mp h'
  exact (specRow_unique hm hm' hop).2

theorem mem_allMnemonics (m : Mnemonic) : m ∈ allMnemonics := by cases m <;> decide

theorem specOpcodeTable_length : specOpcodeTable.length = 151 := by
  rw [specOpcodeTable, List.length_flatMap]
  rfl

/-- Settles O3: the instruction of a row is the one its opcode decodes to. -/
theorem instructionsAreTheRowsOfTheOpcodeTable : Obligations.InstructionsAreTheRowsOfTheOpcodeTable := by
  refine ⟨rfl, mem_allMnemonics, specOpcodeTable_length, specOpcodeTable_opcodes_nodup, rowOf_mem_specRows, ?_⟩
  intro m row h
  obtain ⟨i, -, hm, hrow⟩ := decodeOpcode_of_specRow h
  exact ⟨i, hm, hrow⟩

/-! ### Well-formed pairs (30_encoding.md R75, R80) -/

/-- The modes the check allows a mnemonic are those of its rows in the table. -/
theorem modes_eq_specRows (m : Mnemonic) : m.modes = (specRows m).map TableRow.mode := by cases m <;> rfl

theorem wellFormedPair_iff {m : Mnemonic} {o : Operand} :
    wellFormedPair m o = true ↔ ∃ row ∈ specRows m, row.mode = o.mode := by
  simp only [wellFormedPair, decide_eq_true_eq, modes_eq_specRows, List.mem_map]

theorem instr_wellFormed (i : Instr) : i.WellFormed :=
  wellFormedPair_iff.mpr ⟨rowOf i, rowOf_mem_specRows i, rfl⟩

/-- An instruction's mnemonic goes with every operand of its mode: its opcode decodes to that pair when the operand's bytes
follow it. -/
theorem exists_instr_of_mode_eq (i : Instr) {o : Operand} (h : i.operand.mode = o.mode) :
    ∃ j : Instr, j.mnemonic = i.mnemonic ∧ j.operand = o := by
  obtain ⟨j, -, hm, -, ho⟩ := decodeOpcode_opcode i ((o.bytes ++ []).getD 0 0) ((o.bytes ++ []).getD 1 0)
  exact ⟨j, hm, by rw [ho, h, o.mode_operand_bytes]⟩

/-- Settles O4: a well-formed pair has a row, the row an instruction, and the instruction's mnemonic goes with every operand of
its mode. -/
theorem wellFormedPairsAreTheInstructions : Obligations.WellFormedPairsAreTheInstructions := by
  intro m o
  constructor
  · intro h
    obtain ⟨row, hrow, hmode⟩ := wellFormedPair_iff.mp h
    obtain ⟨i, -, rfl, rfl⟩ := decodeOpcode_of_specRow hrow
    exact exists_instr_of_mode_eq i hmode
  · rintro ⟨i, rfl, rfl⟩
    exact instr_wellFormed i

/-- Settles O1: the operand's bytes write the operand back, and the instruction's row is in the table. -/
theorem decodingAnEncodedInstructionGivesItBack : Obligations.DecodingAnEncodedInstructionGivesItBack :=
  fun i rest => ⟨instr_wellFormed i, decode_encode i rest⟩

/-- Settles O5: all but the two rejections are encodings. -/
theorem bytesWrittenFromTheTableDecode : Obligations.BytesWrittenFromTheTableDecode :=
  ⟨decode_encode (.ldaImm 0x80) [], decode_encode .pha [], decode_encode (.incAbsX 0x1234) [],
    decode_encode (.adcIndY 0x40) [0xEA], decode_encode (.andAbsX 0x1234) [], decode_encode .rorAcc [],
    decode_encode .cld [], decode_encode (.cmpIndX 0xFE) [], decode_encode (.jmpInd 0x30FF) [],
    decode_encode (.bitAbs 0x1234) [], decode_cons_eq_unlistedOpcode rfl, rfl⟩

/-! ### The unlisted opcode bytes (30_encoding.md R77) -/

theorem unlistedOpcodes_nodup : unlistedOpcodes.Nodup := of_decide_eq_true rfl

/-- The decoder has no instruction for an unlisted byte, whatever bytes follow it. -/
theorem decodeOpcode_of_unlisted {op : Byte} (h : op ∈ unlistedOpcodes) (b1 b2 : Byte) :
    decodeOpcode op b1 b2 = none := by
  have all_none : unlistedOpcodes.map (decodeOpcode · b1 b2) = List.replicate unlistedOpcodes.length none := rfl
  exact List.map_eq_replicate_iff.mp all_none op h

theorem exists_opcode_of_mem_table {op : Byte} (h : op ∈ specOpcodeTable.map TableRow.opcode) :
    ∃ i : Instr, i.opcode = op := by
  obtain ⟨row, hrow, rfl⟩ := List.mem_map.mp h
  obtain ⟨m, -, hm⟩ := List.mem_flatMap.mp hrow
  obtain ⟨i, -, -, rfl⟩ := decodeOpcode_of_specRow hm
  exact ⟨i, rfl⟩

/-- The table and the list of unlisted bytes share no byte: the decoder tells them apart. -/
theorem table_disjoint_unlisted : (specOpcodeTable.map TableRow.opcode).Disjoint unlistedOpcodes := by
  intro op htable hun
  obtain ⟨i, rfl⟩ := exists_opcode_of_mem_table htable
  obtain ⟨j, hj, -⟩ := decodeOpcode_opcode i 0 0
  rw [decodeOpcode_of_unlisted hun] at hj
  cases hj

/-- Every byte is an instruction's opcode or unlisted, by counting: 151 opcodes and 105 unlisted bytes, all different, are all
256. -/
theorem exists_opcode_or_unlisted (op : Byte) : (∃ i : Instr, i.opcode = op) ∨ op ∈ unlistedOpcodes := by
  have nodup : (specOpcodeTable.map TableRow.opcode ++ unlistedOpcodes).Nodup :=
    specOpcodeTable_opcodes_nodup.append unlistedOpcodes_nodup table_disjoint_unlisted
  have count : (specOpcodeTable.map TableRow.opcode ++ unlistedOpcodes).length = Fintype.card Byte := by
    rw [List.length_append, List.length_map, specOpcodeTable_length, ← FinEnum.card_eq_fintypeCard]
    rfl
  have all := Finset.eq_univ_of_card _ ((List.toFinset_card_of_nodup nodup).trans count)
  have mem : op ∈ specOpcodeTable.map TableRow.opcode ++ unlistedOpcodes :=
    List.mem_toFinset.mp (all ▸ Finset.mem_univ op)
  exact (List.mem_append.mp mem).imp_left exists_opcode_of_mem_table

/-- An instruction the decoder reads from an opcode byte has that opcode, and the operand the bytes after it write. -/
theorem opcode_operand_of_decodeOpcode {op b1 b2 : Byte} {i : Instr} (h : decodeOpcode op b1 b2 = some i) :
    i.opcode = op ∧ i.operand = i.operand.mode.operand b1 b2 := by
  rcases exists_opcode_or_unlisted op with ⟨k, rfl⟩ | hun
  · obtain ⟨_, hj, -, hop, ho⟩ := decodeOpcode_opcode k b1 b2
    rw [hj] at h
    cases h
    have hmode : i.operand.mode = k.operand.mode := by
      rw [ho]
      cases k.operand.mode <;> rfl
    exact ⟨hop, hmode ▸ ho⟩
  · rw [decodeOpcode_of_unlisted hun] at h
    cases h

/-- Settles O2: the first byte is the opcode and the bytes taken after it are the operand's. -/
theorem decodedBytesAreTheInstructionsEncoding : Obligations.DecodedBytesAreTheInstructionsEncoding := by
  intro bytes i rest h
  match bytes, h with
  | [], h => cases h
  | op :: bs, h =>
    obtain ⟨hi, hlen, rfl⟩ := decode_cons_eq_ok_iff.mp h
    obtain ⟨rfl, ho⟩ := opcode_operand_of_decodeOpcode hi
    have hbytes : i.operand.bytes = bs.take (i.length - 1) := by
      rw [ho]
      exact i.operand.mode.operand_bytes bs hlen
    rw [encode, hbytes, List.cons_append, List.take_append_drop]

theorem mem_unlistedOpcodes_iff {op : Byte} (b1 b2 : Byte) :
    op ∈ unlistedOpcodes ↔ decodeOpcode op b1 b2 = none := by
  refine ⟨fun h => decodeOpcode_of_unlisted h b1 b2, fun h => ?_⟩
  rcases exists_opcode_or_unlisted op with ⟨i, rfl⟩ | hun
  · obtain ⟨j, hj, -⟩ := decodeOpcode_opcode i b1 b2
    rw [h] at hj
    cases hj
  · exact hun

/-! ### A step that takes no interrupt (60_exceptions.md R232) -/

theorem State.pendingEntry_of_noInterrupt {s : State} (h : NoInterrupt s) : s.pendingEntry = none := by
  obtain ⟨hnmi, hirq | hmask⟩ := h
  · simp [State.pendingEntry, hnmi, hirq]
  · simp [State.pendingEntry, hnmi, hmask]

theorem step_of_decode_ok {s : State} (h : NoInterrupt s) {i : Instr} {rest : List Byte}
    (hd : decode s.fetchBytes = .ok i rest) : step s = exec i s := by
  simp only [step, State.pendingEntry_of_noInterrupt h, hd]

theorem step_of_decode_error {s : State} (h : NoInterrupt s) {e : DecodeError} (hd : decode s.fetchBytes = .error e) :
    step s = .refused (.unlistedOpcode (s.fetchByte 0)) := by
  simp only [step, State.pendingEntry_of_noInterrupt h, hd]

/-- Settles O6: the step refuses because decoding the bytes fetched names the unlisted byte. -/
theorem unlistedOpcodesAreRefused : Obligations.UnlistedOpcodesAreRefused := by
  refine ⟨rfl, unlistedOpcodes_nodup, fun op b1 b2 => mem_unlistedOpcodes_iff b1 b2, fun s h hun => ?_⟩
  exact step_of_decode_error h (decode_cons_eq_unlistedOpcode (decodeOpcode_of_unlisted hun _ _))

/-- Where the bytes of an instruction stand at PC, the three bytes fetched begin with them: no instruction is longer. -/
theorem State.take_fetchBytes_eq_encode {s : State} {i : Instr}
    (h : ∀ k b, (encode i)[k]? = some b → s.readByte (s.pc + BitVec.ofNat 16 k) = b) :
    s.fetchBytes.take (encode i).length = encode i := by
  have fetched : s.fetchBytes = (List.range 3).map fun k => s.fetchByte k := rfl
  have short : (encode i).length ≤ 3 := by
    rw [encode_length]
    exact (Laws.mode_length_bounds i.operand.mode).2
  refine List.ext_getElem (by simpa [fetched] using short) fun k _ hk => ?_
  simpa [fetched, State.fetchByte] using h k _ (List.getElem?_eq_getElem hk)

/-- Settles O9: the bytes fetched are the encoding and others, and decode to the instruction. -/
theorem stepRunsTheInstructionWhoseBytesStandAtPC : Obligations.StepRunsTheInstructionWhoseBytesStandAtPC := by
  intro s i hno hbytes
  have fetched : encode i ++ s.fetchBytes.drop (encode i).length = s.fetchBytes := by
    simpa only [State.take_fetchBytes_eq_encode hbytes] using List.take_append_drop (encode i).length s.fetchBytes
  exact step_of_decode_ok hno (fetched ▸ decode_encode i _)

end Sys2Proof.Machine

namespace Sys2Proof.Machine

/-! ### Bytes and words as numbers (30_encoding.md R72, R83) -/

theorem highByte_toNat (w : Word) : (highByte w).toNat = w.toNat / 256 := by
  have := word_toNat_eq_bytes w
  have := (lowByte w).isLt
  omega

theorem zeroPage_toNat (b : Byte) : (zeroPage b).toNat = b.toNat := by
  have := b.isLt
  simp only [zeroPage, BitVec.toNat_setWidth]
  omega

theorem zeroPage_eq_ofNat (b : Byte) : zeroPage b = BitVec.ofNat 16 b.toNat := by
  apply BitVec.eq_of_toNat_eq
  have := b.isLt
  rw [zeroPage_toNat, BitVec.toNat_ofNat]
  omega

/-- An index is added to a word modulo 65536. -/
theorem word_add_index_toNat (w : Word) (x : Byte) : (w + x.setWidth 16).toNat = (w.toNat + x.toNat) % 65536 := by
  have := x.isLt
  simp only [BitVec.toNat_add, BitVec.toNat_setWidth]
  omega

/-- Adding an index leaves the page exactly when the low byte and the index carry, at the top of memory too. -/
theorem highByte_add_index_ne_iff (w : Word) (x : Byte) :
    highByte (w + x.setWidth 16) ≠ highByte w ↔ 256 ≤ w.toNat % 256 + x.toNat := by
  have := w.isLt
  have := x.isLt
  rw [ne_eq, ← BitVec.toNat_inj, highByte_toNat, highByte_toNat, word_add_index_toNat]
  omega

/-! ### Direct modes (30_encoding.md R83 to R89) -/

/-- Settles O27: sums of words and of bytes, read as numbers; the instructions of the mode are read off the table. -/
theorem directModesFormTheirAddresses : Obligations.DirectModesFormTheirAddresses := by
  refine ⟨fun s b w => ⟨?_, ?_, ?_, rfl, ?_, ?_, ?_, ?_⟩, ?_⟩
  · exact congrArg some (zeroPage_toNat b)
  · exact congrArg some ((zeroPage_toNat _).trans (BitVec.toNat_add b s.x))
  · exact congrArg some ((zeroPage_toNat _).trans (BitVec.toNat_add b s.y))
  · exact congrArg some (word_add_index_toNat w s.x)
  · exact congrArg some (word_add_index_toNat w s.y)
  · exact decide_eq_true_iff.trans (highByte_add_index_ne_iff w s.x)
  · exact decide_eq_true_iff.trans (highByte_add_index_ne_iff w s.y)
  · refine forall_instr_of_specRows (P := fun m row => row.mode = .zeropageY ↔
      (m = .ldx ∧ row.opcode = 0xB6) ∨ (m = .stx ∧ row.opcode = 0x96)) fun m => ?_
    cases m <;> decide

/-! ### Indirect modes (30_encoding.md R91, R92) -/

/-- A pointer in page zero as a number; its high byte is read in page zero too. -/
theorem State.zeroPagePointer_toNat (s : State) (p : Byte) :
    (s.zeroPagePointer p).toNat =
      (s.readByte (BitVec.ofNat 16 p.toNat)).toNat + 256 * (s.readByte (BitVec.ofNat 16 ((p.toNat + 1) % 256))).toNat := by
  rw [State.zeroPagePointer, operandWord_toNat, zeroPage_eq_ofNat, zeroPage_eq_ofNat, BitVec.toNat_add]
  rfl

/-- Settles O28: both modes go through a pointer in page zero, indexed before it is read or after. -/
theorem indirectModesReadTheirPointersInPageZero : Obligations.IndirectModesReadTheirPointersInPageZero := by
  intro s b byteAt p base
  have pointer : (s.zeroPagePointer b).toNat = base := s.zeroPagePointer_toNat b
  refine ⟨?_, ?_, ?_⟩
  · have indexed : (b + s.x).toNat = p := BitVec.toNat_add b s.x
    exact congrArg some (indexed ▸ s.zeroPagePointer_toNat (b + s.x))
  · rw [← pointer]
    exact congrArg some (word_add_index_toNat _ s.y)
  · rw [← pointer]
    exact decide_eq_true_iff.trans (highByte_add_index_ne_iff _ s.y)

/-! ### The pointer of `JMP (oper)` (30_encoding.md R93) -/

/-- The two masks of R93 take the high and the low byte of a word. -/
theorem word_and_masks_toNat (w : Word) :
    (w &&& 0xFF00).toNat = w.toNat / 256 * 256 ∧ (w &&& 0x00FF).toNat = w.toNat % 256 := by
  constructor
  · have shifts : w &&& (0xFF00 : Word) = w >>> 8 <<< 8 := (BitVec.shiftLeft_ushiftRight (x := w) (n := 8)).symm
    have := w.isLt
    rw [shifts, BitVec.toNat_shiftLeft, BitVec.toNat_ushiftRight, Nat.shiftLeft_eq, Nat.shiftRight_eq_div_pow]
    omega
  · rw [BitVec.toNat_and]
    exact Nat.and_two_pow_sub_one_eq_mod w.toNat 8

theorem jumpHighAddress_eq (pageWrap : Bool) (w : Word) :
    jumpHighAddress pageWrap w = BitVec.ofNat 16
      (if pageWrap then w.toNat / 256 * 256 + (w.toNat + 1) % 256 else (w.toNat + 1) % 65536) := by
  apply BitVec.eq_of_toNat_eq
  have := w.isLt
  cases pageWrap with
  | true =>
    obtain ⟨page, -⟩ := word_and_masks_toNat w
    obtain ⟨-, next⟩ := word_and_masks_toNat (w + 1)
    have succ : (w + 1).toNat = (w.toNat + 1) % 65536 := BitVec.toNat_add w 1
    simp only [jumpHighAddress, if_true, BitVec.toNat_add _ (_ &&& _), page, next, succ, BitVec.toNat_ofNat]
    omega
  | false => simp [jumpHighAddress]

/-- Settles O29: the target is the word of the two bytes, the high one read at `jumpHighAddress`. -/
theorem jumpIndirectReadsItsPointer : Obligations.JumpIndirectReadsItsPointer := by
  refine ⟨?_, rfl, fun s w => ?_⟩
  · refine forall_instr_of_specRows (P := fun m row => row.mode = .indirect ↔ m = .jmp ∧ row.opcode = 0x6C) fun m => ?_
    cases m <;> decide
  · dsimp only
    rw [← jumpHighAddress_eq]
    exact congrArg some (operandWord_toNat _ _)

/-! ### Operand access (30_encoding.md R94) -/

theorem State.effectiveAddress_eq_none_iff (s : State) (o : Operand) :
    s.effectiveAddress o = none ↔ o.mode = .implied ∨ o.mode = .accumulator ∨ o.mode = .immediate := by
  cases o <;> simp [State.effectiveAddress, Operand.mode]

/-- Storing an operand that has an address is writing the byte there. -/
theorem State.storeOperand_of_address {s : State} {o : Operand} {ea : Word} (h : s.effectiveAddress o = some ea)
    (v : Byte) : s.storeOperand o v = s.writeByte ea v := by
  have notAccumulator : o ≠ .accumulator := by
    rintro rfl
    cases h
  rw [State.storeOperand_eq, if_neg notAccumulator, h]

theorem State.writeByte_wroteByte (s : State) (ea : Word) (v : Byte) : WroteByte ea v s (s.writeByte ea v) := by
  refine ⟨fun a ha => ?_, fun hram => ?_, fun hrom => ?_⟩
  · rw [State.readByte_writeByte, if_neg fun h => ha h.1]
  · rw [State.readByte_writeByte, if_pos ⟨rfl, hram⟩]
  · rw [State.writeByte_of_not_ram hrom]

/-- Settles O30: storing at an address is the memory write there. -/
theorem operandsAreReadAndStoredThroughTheirMode : Obligations.OperandsAreReadAndStoredThroughTheirMode := by
  refine ⟨State.effectiveAddress_eq_none_iff, fun _ _ _ => ⟨rfl, rfl, rfl⟩, fun s o ea v h => ?_⟩
  rw [State.storeOperand_of_address h]
  exact ⟨State.loadOperand_of_address h, by rw [State.writeByte_eq], s.writeByte_wroteByte ea v⟩

/-! ### Branch offsets (30_encoding.md R90, R97) -/

/-- The signed offset of a branch byte is the byte's signed value. -/
theorem signExtend_toInt (b : Byte) : (b.signExtend 16 : Word).toInt = b.toInt :=
  BitVec.toInt_signExtend_of_le (by omega)

/-- A signed word in the range of a byte is that byte, extended. -/
theorem signExtend_ofInt_toInt {d : Word} (hlo : -128 ≤ d.toInt) (hhi : d.toInt ≤ 127) :
    (BitVec.ofInt 8 d.toInt).signExtend 16 = d := by
  have value : (BitVec.ofInt 8 d.toInt).toInt = d.toInt :=
    BitVec.toInt_ofInt_eq_self (by omega) (by omega) (by omega)
  apply BitVec.eq_of_toInt_eq
  rw [signExtend_toInt, value]

/-- The assembler has an offset byte for a target exactly when the byte leads there. -/
theorem branchOffset_eq_some_iff (pc target : Word) (b : Byte) :
    branchOffset pc target = some b ↔ branchTarget pc b = target := by
  have target_iff : branchTarget pc b = target ↔ b.signExtend 16 = target - (pc + 2) := by
    rw [branchTarget]
    bv_omega
  rw [target_iff, branchOffset]
  generalize target - (pc + 2) = d
  constructor
  · intro h
    simp only [Option.ite_none_right_eq_some, Option.some.injEq] at h
    obtain ⟨⟨hlo, hhi⟩, rfl⟩ := h
    exact signExtend_ofInt_toInt hlo hhi
  · rintro rfl
    have hlo := b.le_toInt
    have hhi := b.toInt_lt
    simp only [signExtend_toInt, BitVec.ofInt_toInt]
    exact if_pos (by omega)

theorem branchTarget_toNat (pc : Word) (b : Byte) :
    ((branchTarget pc b).toNat : Int) = ((pc.toNat : Int) + 2 + b.toInt) % 65536 := by
  have offset : b.signExtend 16 = BitVec.ofInt 16 b.toInt := rfl
  have whole : branchTarget pc b = BitVec.ofInt 16 ((pc.toNat : Int) + 2 + b.toInt) := by
    rw [branchTarget, offset, BitVec.ofInt_add, BitVec.ofInt_add, BitVec.ofInt_natCast, BitVec.ofNat_toNat,
      BitVec.setWidth_eq]
    rfl
  rw [whole, BitVec.toNat_ofInt]
  omega

/-- Settles O31: the last two parts are the two directions of `branchOffset_eq_some_iff`. -/
theorem branchOffsetsReachTheirTargets : Obligations.BranchOffsetsReachTheirTargets :=
  ⟨branchTarget_toNat, fun pc target b => (branchOffset_eq_some_iff pc target b).mp,
    fun pc b => (branchOffset_eq_some_iff pc _ b).mpr rfl⟩

end Sys2Proof.Machine

namespace Sys2Proof.Machine

/-! ### An instruction by its mnemonic: its forms, its meaning, its address -/

/-- The forms of a mnemonic are the modes and opcodes of its rows in the opcode table (30_encoding.md R75). -/
theorem hasForms_of_specRows {m : Mnemonic} {forms : List (Mode × Byte)}
    (h : (specRows m).map (fun row => (row.mode, row.opcode)) = forms) : HasForms m forms := by
  intro mode op
  rw [← h, List.mem_map]
  constructor
  · rintro ⟨row, hrow, hpair⟩
    obtain ⟨i, -, hm, rfl⟩ := decodeOpcode_of_specRow hrow
    cases hpair
    exact ⟨i, hm, rfl, rfl⟩
  · rintro ⟨i, rfl, rfl, rfl⟩
    exact ⟨rowOf i, rowOf_mem_specRows i, rfl⟩

theorem exec_of_mnemonic {i : Instr} {m : Mnemonic} (h : i.mnemonic = m) (s : State) :
    exec i s = .next (meaning m i.operand s) := h ▸ exec_eq_meaning i s

/-- Where no row of a mnemonic has a mode without an address, its instructions form one at every state
(30_encoding.md R81, R82). -/
theorem exists_effectiveAddress_of_specRows {i : Instr} {m : Mnemonic} (hm : i.mnemonic = m)
    (h : ∀ row ∈ specRows m, row.mode ∉ [Mode.implied, .accumulator, .immediate]) (s : State) :
    ∃ ea, s.effectiveAddress i.operand = some ea := by
  have mode : i.operand.mode ∉ [Mode.implied, .accumulator, .immediate] := h (rowOf i) (hm ▸ rowOf_mem_specRows i)
  refine Option.ne_none_iff_exists'.mp fun hnone => mode ?_
  simpa using (State.effectiveAddress_eq_none_iff s i.operand).mp hnone

/-! ### Loads (40_transfer.md R110 to R112) -/

/-- Settles O32: the operations of the three loads, at any operand. -/
theorem loadsTakeTheOperandAndSetNZ : Obligations.LoadsTakeTheOperandAndSetNZ := by
  refine ⟨hasForms_of_specRows rfl, hasForms_of_specRows rfl, hasForms_of_specRows rfl,
    fun i s => ⟨fun hlda => ?_, fun hldx => ?_, fun hldy => ?_⟩⟩
  · exact (exec_of_mnemonic hlda s).trans (congrArg Host.Outcome.next (opLda_eq i.operand s))
  · exact (exec_of_mnemonic hldx s).trans (congrArg Host.Outcome.next (opLdx_eq i.operand s))
  · exact (exec_of_mnemonic hldy s).trans (congrArg Host.Outcome.next (opLdy_eq i.operand s))

/-! ### Stores (40_transfer.md R113 to R115) -/

/-- What was written in memory does not depend on registers and flags. -/
theorem WroteByte.congr {ea : Word} {v : Byte} {s t u : State} (h : WroteByte ea v s t) (hm : u.mem = t.mem)
    (hc : u.cfg = t.cfg) : WroteByte ea v s u := by
  simpa only [WroteByte, State.readByte_congr hm hc] using h

theorem opStore_frame {o : Operand} {s : State} {ea : Word} (v : Byte) (h : s.effectiveAddress o = some ea) :
    { opStore o v s with mem := s.mem } = { s with pc := s.pc + BitVec.ofNat 16 o.mode.length } := by
  rw [opStore_eq v h, State.writeByte_eq]
  rfl

theorem opStore_wroteByte {o : Operand} {s : State} {ea : Word} (v : Byte) (h : s.effectiveAddress o = some ea) :
    WroteByte ea v s (opStore o v s) := by
  rw [opStore_eq v h]
  exact (s.writeByte_wroteByte ea v).congr rfl rfl

/-- STA, STX and STY store their register through an address. -/
theorem exec_store {i : Instr} {s : State} {v : Byte}
    (h : (i.mnemonic = .sta ∧ v = s.a) ∨ (i.mnemonic = .stx ∧ v = s.x) ∨ (i.mnemonic = .sty ∧ v = s.y)) :
    exec i s = .next (opStore i.operand v s) ∧ ∃ ea, s.effectiveAddress i.operand = some ea := by
  obtain ⟨hm, rfl⟩ | ⟨hm, rfl⟩ | ⟨hm, rfl⟩ := h <;>
    exact ⟨exec_of_mnemonic hm s, exists_effectiveAddress_of_specRows hm (by decide) s⟩

/-- Settles O33: a store is a memory write at the address its operand forms, and PC moving on. -/
theorem storesWriteOneByte : Obligations.StoresWriteOneByte := by
  refine ⟨hasForms_of_specRows rfl, hasForms_of_specRows rfl, hasForms_of_specRows rfl, fun i s v h => ?_⟩
  obtain ⟨hexec, ea, hea⟩ := exec_store h
  exact ⟨ea, _, hea, hexec, opStore_frame v hea, opStore_wroteByte v hea⟩

/-! ### Register transfers (40_transfer.md R116 to R121) -/

/-- Settles O34: each transfer's meaning writes its one register, then N and Z but for TXS, and moves PC on by one byte. -/
theorem transfersMoveOneRegister : Obligations.TransfersMoveOneRegister := by
  refine ⟨hasForms_of_specRows rfl, hasForms_of_specRows rfl, hasForms_of_specRows rfl, hasForms_of_specRows rfl,
    hasForms_of_specRows rfl, hasForms_of_specRows rfl, fun s => ?_⟩
  exact ⟨exec_eq_meaning .tax s, exec_eq_meaning .tay s, exec_eq_meaning .tsx s, exec_eq_meaning .txa s,
    exec_eq_meaning .txs s, exec_eq_meaning .tya s⟩

end Sys2Proof.Machine

namespace Sys2Proof.Machine

/-! ### Pushing and pulling instructions (41_stack.md R130 to R133) -/

/-- Pulling a byte that was pushed to RAM gives it back, and SP with it. -/
theorem State.pull_push {s : State} (v : Byte) (hram : s.isRam (stackAddress s.sp)) :
    (s.push v).pull = (v, { s.push v with sp := s.sp }) := by
  have hsp : (s.push v).sp + 1 = s.sp := BitVec.sub_add_cancel s.sp 1
  rw [State.pull_eq, hsp, State.readByte_push, if_pos ⟨rfl, hram⟩]

/-- A pull does not read PC. -/
theorem State.pull_advance (o : Operand) (s : State) : (s.advance o).pull = (s.pull.1, s.pull.2.advance o) := rfl

/-- PHA and PHP write no register but SP and PC. -/
theorem State.push_advance_frame (v : Byte) (s : State) :
    { (s.push v).advance .implied with mem := s.mem } = { s with sp := s.sp - 1, pc := s.pc + 1 } := by
  rw [State.push_eq]
  rfl

/-- PHA and PHP write one byte of memory, at the stack byte SP names. -/
theorem State.push_advance_wroteByte (v : Byte) (s : State) :
    WroteByte (stackAddress s.sp) v s ((s.push v).advance .implied) :=
  (s.push_wroteByte v).congr rfl rfl

/-- Settles O35: PHA is a push of A and PLA a pull into A, N and Z, each followed by PC moving on. -/
theorem phaAndPlaMoveAThroughTheStack : Obligations.PhaAndPlaMoveAThroughTheStack := by
  refine ⟨hasForms_of_specRows rfl, hasForms_of_specRows rfl, fun s => ?_, fun s => ?_⟩
  · exact ⟨_, exec_eq_meaning .pha s, s.push_advance_frame s.a, s.push_advance_wroteByte s.a⟩
  · exact exec_eq_meaning .pla s

theorem exec_php (s : State) : exec .php s = .next ((s.push (s.srByte true)).advance .implied) := exec_eq_meaning .php s

theorem exec_plp (s : State) : exec .plp s = .next ((s.pull.2.setSR s.pull.1).advance .implied) := exec_eq_meaning .plp s

/-- PLP right after PHP, the stack byte in RAM: the pull meets the byte pushed, whose flags are those PHP left alone, and each
of the two moves PC on by one byte. -/
theorem exec_plp_of_exec_php {s t : State} (hphp : exec .php s = .next t) (hram : s.isRam (stackAddress s.sp)) :
    exec .plp t = .next { t with sp := s.sp, pc := s.pc + 2 } := by
  obtain rfl : (s.push (s.srByte true)).advance .implied = t := Host.Outcome.next.inj ((exec_php s).symm.trans hphp)
  have hpc : s.pc + 2 = s.pc + 1 + 1 := by bv_omega
  rw [exec_plp, State.pull_advance, State.pull_push _ hram, State.setSR_srByte, State.push_eq, hpc]
  rfl

/-- Settles O36: the byte PHP pushes is the status byte with the break flag set, which PLP sets the flags from. -/
theorem phpAndPlpMoveTheFlagsThroughTheStack : Obligations.PhpAndPlpMoveTheFlagsThroughTheStack := by
  refine ⟨hasForms_of_specRows rfl, hasForms_of_specRows rfl, fun s => ?_, fun s => ?_, fun s t => exec_plp_of_exec_php⟩
  · exact ⟨_, exec_php s, s.push_advance_frame _, s.push_advance_wroteByte (s.srByte true)⟩
  · exact exec_plp s

end Sys2Proof.Machine

namespace Sys2Proof.Machine

/-! ### Counting a byte (42_incdec.md R140 to R145) -/

theorem decremented_eq_ofNat (v : Byte) : decremented v = BitVec.ofNat 8 (v.toNat + 255) := by
  unfold decremented
  bv_omega

theorem incremented_eq_ofNat (v : Byte) : incremented v = BitVec.ofNat 8 (v.toNat + 1) := by
  unfold incremented
  bv_omega

theorem decremented_toNat (v : Byte) : (decremented v).toNat = (v.toNat + 255) % 256 := by
  rw [decremented_eq_ofNat, BitVec.toNat_ofNat]

theorem incremented_toNat (v : Byte) : (incremented v).toNat = (v.toNat + 1) % 256 := by
  rw [incremented_eq_ofNat, BitVec.toNat_ofNat]

/-! ### Counts in memory (42_incdec.md R140, R143) -/

theorem opStep_frame {o : Operand} {s : State} {ea : Word} (f : Byte → Byte) (h : s.effectiveAddress o = some ea) :
    { opStep f o s with mem := s.mem } =
      { s with
        n := (f (s.readByte ea)).getLsbD 7, z := decide (f (s.readByte ea) = 0)
        pc := s.pc + BitVec.ofNat 16 o.mode.length } := by
  rw [opStep_eq f h, State.writeByte_eq]
  rfl

theorem opStep_wroteByte {o : Operand} {s : State} {ea : Word} (f : Byte → Byte) (h : s.effectiveAddress o = some ea) :
    WroteByte ea (f (s.readByte ea)) s (opStep f o s) := by
  rw [opStep_eq f h]
  exact (s.writeByte_wroteByte ea _).congr rfl rfl

/-- DEC and INC change the byte at an address, each by its own function of the byte. -/
theorem exec_count {i : Instr} (h : i.mnemonic = .dec ∨ i.mnemonic = .inc) (s : State) :
    ∃ f ea, s.effectiveAddress i.operand = some ea ∧ exec i s = .next (opStep f i.operand s) ∧
      (i.mnemonic = .dec → f = decremented) ∧ (i.mnemonic = .inc → f = incremented) := by
  obtain hm | hm := h <;> obtain ⟨ea, hea⟩ := exists_effectiveAddress_of_specRows hm (by decide) s
  · exact ⟨decremented, ea, hea, exec_of_mnemonic hm s, fun _ => rfl, fun hinc => (nomatch hm.symm.trans hinc)⟩
  · exact ⟨incremented, ea, hea, exec_of_mnemonic hm s, fun hdec => (nomatch hm.symm.trans hdec), fun _ => rfl⟩

/-- Settles O37: DEC and INC are one operation at one address, and differ in the function that counts the byte. -/
theorem memoryIsCountedByOne : Obligations.MemoryIsCountedByOne := by
  refine ⟨hasForms_of_specRows rfl, hasForms_of_specRows rfl, fun i s h => ?_⟩
  obtain ⟨f, ea, hea, hexec, hdec, hinc⟩ := exec_count h s
  refine ⟨ea, _, _, hea, hexec, fun hm => ?_, fun hm => ?_, opStep_frame f hea, opStep_wroteByte f hea⟩
  · rw [hdec hm, decremented_toNat]
  · rw [hinc hm, incremented_toNat]

/-! ### Counts of the index registers (42_incdec.md R141, R142, R144, R145) -/

/-- Settles O38: each meaning counts its register, whose result is the number modulo 256, then sets N and Z and moves PC on by
one byte. -/
theorem indexRegistersAreCountedByOne : Obligations.IndexRegistersAreCountedByOne := by
  refine ⟨hasForms_of_specRows rfl, hasForms_of_specRows rfl, hasForms_of_specRows rfl, hasForms_of_specRows rfl,
    fun s => ?_⟩
  simp only [← decremented_eq_ofNat, ← incremented_eq_ofNat]
  exact ⟨exec_eq_meaning .dex s, exec_eq_meaning .dey s, exec_eq_meaning .inx s, exec_eq_meaning .iny s⟩

end Sys2Proof.Machine

namespace Sys2Proof.Machine

/-! ### Binary addition and subtraction (43_arithmetic.md R151, R152) -/

/-- Bit 7 of a byte is its sign. -/
theorem getLsbD_seven_eq_decide (v : Byte) : v.getLsbD 7 = decide (v.toInt < 0) := by
  rw [← BitVec.msb_eq_toInt, BitVec.msb_eq_getLsbD_last]

/-- The sum byte, read as signed, is the signed sum brought into the range of a byte. -/
theorem adcBinary_r_toInt (a m : Byte) (c : Bool) :
    (adcBinary a m c).r.toInt = (a.toInt + m.toInt + c.toNat).bmod 256 := by
  have hr : (adcBinary a m c).r = a + m + BitVec.ofNat 8 c.toNat := by
    apply BitVec.eq_of_toNat_eq
    simp [adcBinary]
  rw [hr]
  cases c <;> simp [BitVec.toInt_add]

/-- R151's formula in terms of signs: the sum's differs from those of both summands. -/
theorem adcBinary_v_iff_signs (a m : Byte) (c : Bool) :
    (adcBinary a m c).v = true ↔
      ¬ (a.toInt < 0 ↔ (adcBinary a m c).r.toInt < 0) ∧ ¬ (m.toInt < 0 ↔ (adcBinary a m c).r.toInt < 0) := by
  change ((a ^^^ (adcBinary a m c).r) &&& (m ^^^ (adcBinary a m c).r)).getLsbD 7 = true ↔ _
  rw [BitVec.getLsbD_and, BitVec.getLsbD_xor, BitVec.getLsbD_xor]
  simp only [getLsbD_seven_eq_decide, Bool.and_eq_true, bne_iff_ne, ne_eq, decide_eq_decide]

/-- V of a sum is signed overflow (decision D14, log 16). -/
theorem adcBinary_v_iff (a m : Byte) (c : Bool) :
    (adcBinary a m c).v = true ↔ a.toInt + m.toInt + c.toNat < -128 ∨ 127 < a.toInt + m.toInt + c.toNat := by
  have := c.toNat_lt
  have := a.toInt_lt
  have := a.le_toInt
  have := m.toInt_lt
  have := m.le_toInt
  rw [adcBinary_v_iff_signs, adcBinary_r_toInt, Int.bmod_def]
  omega

/-- The overflow masks of R151 and R152 agree: where `a` and `r` differ, `a` differs from `m` exactly when `r` differs from
the complement of `m`. -/
theorem sbc_overflow_mask_eq (a m r : Byte) : (a ^^^ m) &&& (a ^^^ r) = (a ^^^ r) &&& (~~~m ^^^ r) := by
  apply BitVec.eq_of_getLsbD_eq
  intro k hk
  simp only [BitVec.getLsbD_and, BitVec.getLsbD_xor, BitVec.getLsbD_not, hk, decide_true, Bool.true_and]
  cases a.getLsbD k <;> cases m.getLsbD k <;> cases r.getLsbD k <;> rfl

/-- Subtraction is addition of the one's complement: the difference is 256 below the sum (43_arithmetic.md R152). -/
theorem sbcBinary_eq_adcBinary (a m : Byte) (c : Bool) : sbcBinary a m c = adcBinary a (~~~m) c := by
  have hnot : (~~~m).toNat = 255 - m.toNat := BitVec.toNat_not
  have hm := m.isLt
  have hr : BitVec.ofInt 8 ((a.toNat : Int) - m.toNat - (1 - c.toNat)) =
      BitVec.ofNat 8 (a.toNat + (~~~m).toNat + c.toNat) := by
    apply BitVec.eq_of_toNat_eq
    rw [BitVec.toNat_ofInt, BitVec.toNat_ofNat]
    omega
  have hcarry : 0 ≤ (a.toNat : Int) - m.toNat - (1 - c.toNat) ↔ 256 ≤ a.toNat + (~~~m).toNat + c.toNat := by omega
  simp only [sbcBinary, adcBinary, hr, hcarry, sbc_overflow_mask_eq]

theorem byte_toInt_not (m : Byte) : (~~~m).toInt = -m.toInt - 1 := by
  have hnot : (~~~m).toNat = 255 - m.toNat := BitVec.toNat_not
  rw [BitVec.toInt_eq_toNat_cond, BitVec.toInt_eq_toNat_cond, hnot]
  omega

/-- V of a difference is signed overflow, as that of the sum with the complement (decision D14, log 16). -/
theorem sbcBinary_v_iff (a m : Byte) (c : Bool) :
    (sbcBinary a m c).v = true ↔
      a.toInt - m.toInt - (1 - c.toNat) < -128 ∨ 127 < a.toInt - m.toInt - (1 - c.toNat) := by
  rw [sbcBinary_eq_adcBinary, adcBinary_v_iff, byte_toInt_not]
  omega

/-! ### ADC and SBC (43_arithmetic.md R150 to R153) -/

/-- Settles O39: with D = 0 the meaning of ADC is that of the binary sum, whose V is signed overflow. -/
theorem adcAddsWithCarry : Obligations.AdcAddsWithCarry := by
  refine ⟨hasForms_of_specRows rfl, fun i s hm hd => ?_⟩
  have hexec := (exec_of_mnemonic hm s).trans (congrArg Host.Outcome.next (opAdc_binary i.operand hd))
  exact ⟨_, hexec, rfl, adcBinary_v_iff s.a (s.loadOperand i.operand) s.c⟩

/-- Settles O40: with D = 0 the meaning of SBC is that of the binary difference, a sum with the one's complement. -/
theorem sbcSubtractsWithBorrow : Obligations.SbcSubtractsWithBorrow := by
  refine ⟨hasForms_of_specRows rfl, fun i s hm hd => ?_, sbcBinary_eq_adcBinary⟩
  have hexec := (exec_of_mnemonic hm s).trans (congrArg Host.Outcome.next (opSbc_binary i.operand hd))
  exact ⟨_, hexec, rfl, sbcBinary_v_iff s.a (s.loadOperand i.operand) s.c⟩

/-- Settles O41: with D = 1 the meanings of ADC and SBC write back what their functions answer. -/
theorem decimalModeTakesTheConfigurationFunctions : Obligations.DecimalModeTakesTheConfigurationFunctions := by
  intro i s q hd h
  obtain ⟨hm, rfl⟩ | ⟨hm, rfl⟩ := h
  · exact (exec_of_mnemonic hm s).trans (congrArg Host.Outcome.next (opAdc_decimal i.operand hd))
  · exact (exec_of_mnemonic hm s).trans (congrArg Host.Outcome.next (opSbc_decimal i.operand hd))

end Sys2Proof.Machine

namespace Sys2Proof.Machine

/-! ### Each operation that does not read D, run with D changed, answers the same but for D (43_arithmetic.md R150) -/

section
variable (b : Bool) (s : State)

theorem State.loadOperand_setD (o : Operand) : (s.setD b).loadOperand o = s.loadOperand o := rfl

theorem State.effectiveAddress_setD (o : Operand) : (s.setD b).effectiveAddress o = s.effectiveAddress o := rfl

theorem State.writeByte_setD (a : Word) (v : Byte) : (s.setD b).writeByte a v = (s.writeByte a v).setD b := by
  rw [State.writeByte_eq, State.writeByte_eq]
  rfl

theorem State.storeOperand_setD (o : Operand) (v : Byte) :
    (s.setD b).storeOperand o v = (s.storeOperand o v).setD b := by
  rw [State.storeOperand_eq, State.storeOperand_eq, State.effectiveAddress_setD]
  split_ifs
  · rfl
  · cases s.effectiveAddress o with
    | none => rfl
    | some ea => exact s.writeByte_setD b ea v

theorem State.push_setD (v : Byte) : (s.setD b).push v = (s.push v).setD b :=
  congrArg (State.setSP (s.sp - 1)) (s.writeByte_setD b (stackAddress s.sp) v)

theorem State.push16_setD (w : Word) : (s.setD b).push16 w = (s.push16 w).setD b := by
  rw [State.push16, State.push16, State.push_setD, State.push_setD]

theorem opJump_setD (o : Operand) : opJump o (s.setD b) = (opJump o s).setD b := by
  rw [opJump, opJump, State.effectiveAddress_setD]
  cases s.effectiveAddress o <;> rfl

theorem branchIf_setD (cond : Bool) (o : Operand) : branchIf cond o (s.setD b) = (branchIf cond o s).setD b := by
  cases cond with
  | true => exact opJump_setD b s o
  | false => rfl

theorem opShift_setD (f : Byte → Bool → ShiftResult) (o : Operand) :
    opShift f o (s.setD b) = (opShift f o s).setD b := by
  have carry (q : Bool) : (s.setD b).setC q = (s.setC q).setD b := rfl
  rw [opShift, opShift, State.loadOperand_setD, State.setD_c, carry, State.storeOperand_setD]
  rfl

theorem opStep_setD (f : Byte → Byte) (o : Operand) : opStep f o (s.setD b) = (opStep f o s).setD b := by
  rw [opStep, opStep, State.loadOperand_setD, State.storeOperand_setD]
  rfl

theorem opStore_setD (o : Operand) (v : Byte) : opStore o v (s.setD b) = (opStore o v s).setD b :=
  congrArg (State.advance o) (s.storeOperand_setD b o v)

/-- The meaning of a mnemonic that neither reads nor writes D commutes with a change of D. -/
theorem meaning_setD {m : Mnemonic} (hread : m ∉ [Mnemonic.adc, .sbc, .php, .brk])
    (hwrite : m ∉ [Mnemonic.sed, .cld, .plp, .rti]) (o : Operand) :
    meaning m o (s.setD b) = (meaning m o s).setD b := by
  cases m with
  | adc | sbc | php | brk => exact absurd (by decide) hread
  | sed | cld | plp | rti => exact absurd (by decide) hwrite
  | asl | lsr | rol | ror => exact opShift_setD b s _ o
  | dec | inc => exact opStep_setD b s _ o
  | sta | stx | sty => exact opStore_setD b s o _
  | bcc | bcs | bne | beq | bpl | bmi | bvc | bvs => exact branchIf_setD b s _ o
  | jmp => exact opJump_setD b s o
  | jsr => exact (congrArg (opJump o) (s.push16_setD b _)).trans (opJump_setD b _ o)
  | pha => exact congrArg (State.advance o) (s.push_setD b s.a)
  | _ => rfl

/-- The mnemonics that write D do not read it. -/
theorem meaning_setD_of_writes {m : Mnemonic} (hwrite : m ∈ [Mnemonic.sed, .cld, .plp, .rti]) (o : Operand) :
    meaning m o (s.setD b) = meaning m o s := by
  simp only [List.mem_cons, List.not_mem_nil, or_false] at hwrite
  obtain rfl | rfl | rfl | rfl := hwrite <;> rfl

end

/-- Settles O42: the mnemonics outside the list write D without reading it, or leave D where they found it. -/
theorem onlyAdcAndSbcDependOnD : Obligations.OnlyAdcAndSbcDependOnD := by
  intro i s t b hread h
  obtain rfl : meaning i.mnemonic i.operand s = t := Host.Outcome.next.inj ((exec_eq_meaning i s).symm.trans h)
  refine (exec_eq_meaning i (s.setD b)).trans (congrArg Host.Outcome.next ?_)
  split_ifs with hwrite
  · exact meaning_setD_of_writes b s hwrite i.operand
  · exact meaning_setD b s hread hwrite i.operand

end Sys2Proof.Machine

namespace Sys2Proof.Machine

/-! ### Logical operations (44_logical.md R160 to R162) -/

/-- AND, EOR and ORA are one operation, each with a function of bytes that works on every pair of bits alike. -/
theorem exec_logic {i : Instr} {f : Bool → Bool → Bool}
    (h : (i.mnemonic = .and ∧ f = fun p q => p && q) ∨ (i.mnemonic = .eor ∧ f = fun p q => p != q) ∨
      (i.mnemonic = .ora ∧ f = fun p q => p || q)) (s : State) :
    ∃ g : Byte → Byte → Byte, exec i s = .next (opLogic g i.operand s) ∧
      ∀ a m k, (g a m).getLsbD k = f (a.getLsbD k) (m.getLsbD k) := by
  obtain ⟨hm, rfl⟩ | ⟨hm, rfl⟩ | ⟨hm, rfl⟩ := h
  · exact ⟨_, exec_of_mnemonic hm s, fun _ _ _ => BitVec.getLsbD_and⟩
  · exact ⟨_, exec_of_mnemonic hm s, fun _ _ _ => BitVec.getLsbD_xor⟩
  · exact ⟨_, exec_of_mnemonic hm s, fun _ _ _ => BitVec.getLsbD_or⟩

/-- Settles O43: the result is the byte function's at A and the operand, and the state that of `opLogic_eq`. -/
theorem logicalOperationsCombineBitByBit : Obligations.LogicalOperationsCombineBitByBit := by
  refine ⟨hasForms_of_specRows rfl, hasForms_of_specRows rfl, hasForms_of_specRows rfl, fun i s f h => ?_⟩
  obtain ⟨g, hexec, hbits⟩ := exec_logic h s
  exact ⟨g s.a (s.loadOperand i.operand), fun k _ => hbits _ _ k,
    hexec.trans (congrArg Host.Outcome.next (opLogic_eq g i.operand s))⟩

end Sys2Proof.Machine

namespace Sys2Proof.Machine

/-! ### Moving a byte by one bit (45_shift_rotate.md R170 to R173) -/

/-- The byte `v`, moved up by one bit with `enter` coming in at bit 0, is the byte `r`, and `leave` goes out of bit 7. Read from
`r` to `v` it is the move down: `leave` comes in at bit 7 and `enter` goes out of bit 0. -/
def MovedUp (v : Byte) (enter : Bool) (r : Byte) (leave : Bool) : Prop :=
  2 * v.toNat + enter.toNat = r.toNat + 256 * leave.toNat

theorem bool_eq_of_toNat_eq : ∀ {p q : Bool}, p.toNat = q.toNat → p = q := by decide

theorem getLsbD_toNat (v : Byte) (k : Nat) : (v.getLsbD k).toNat = v.toNat / 2 ^ k % 2 := Nat.toNat_testBit v.toNat k

section
variable {v v' r r' : Byte} {enter enter' leave leave' : Bool}

theorem MovedUp.bit_zero (h : MovedUp v enter r leave) : r.getLsbD 0 = enter := by
  have hbit := getLsbD_toNat r 0
  have := enter.toNat_lt
  unfold MovedUp at h
  exact bool_eq_of_toNat_eq (by omega)

theorem MovedUp.bit_seven (h : MovedUp v enter r leave) : v.getLsbD 7 = leave := by
  have hbit := getLsbD_toNat v 7
  have := enter.toNat_lt
  have := r.isLt
  unfold MovedUp at h
  exact bool_eq_of_toNat_eq (by omega)

/-- Halving `r` leaves the low seven bits of `v`. -/
theorem MovedUp.bit_succ (h : MovedUp v enter r leave) {k : Nat} (hk : k < 7) : r.getLsbD (k + 1) = v.getLsbD k := by
  have := enter.toNat_lt
  have := r.isLt
  unfold MovedUp at h
  have half : r.toNat / 2 = v.toNat % 2 ^ 7 := by omega
  rw [← BitVec.testBit_toNat, ← BitVec.testBit_toNat, Nat.testBit_add_one, half, Nat.testBit_mod_two_pow,
    decide_eq_true hk, Bool.true_and]

theorem MovedUp.source_unique (h : MovedUp v enter r leave) (h' : MovedUp v' enter' r leave) :
    v = v' ∧ enter = enter' := by
  have := enter.toNat_lt
  have := enter'.toNat_lt
  unfold MovedUp at h h'
  exact ⟨BitVec.eq_of_toNat_eq (by omega), bool_eq_of_toNat_eq (by omega)⟩

theorem MovedUp.target_unique (h : MovedUp v enter r leave) (h' : MovedUp v enter r' leave') :
    r = r' ∧ leave = leave' := by
  have := r.isLt
  have := r'.isLt
  unfold MovedUp at h h'
  exact ⟨BitVec.eq_of_toNat_eq (by omega), bool_eq_of_toNat_eq (by omega)⟩

end

/-! ### The four results (45_shift_rotate.md R170 to R173) -/

theorem rolResult_toNat (v : Byte) (c : Bool) : (rolResult v c).r.toNat = v.toNat * 2 % 256 + c.toNat := by
  have := c.toNat_lt
  exact Nat.mod_eq_of_lt (by omega)

theorem rorResult_toNat (v : Byte) (c : Bool) : (rorResult v c).r.toNat = v.toNat / 2 + 128 * c.toNat := by
  have := c.toNat_lt
  have := v.isLt
  exact Nat.mod_eq_of_lt (by omega)

theorem rolResult_movedUp (v : Byte) (c : Bool) : MovedUp v c (rolResult v c).r (rolResult v c).c := by
  have hleave : (rolResult v c).c.toNat = v.toNat / 2 ^ 7 % 2 := getLsbD_toNat v 7
  have := v.isLt
  rw [MovedUp, rolResult_toNat]
  omega

/-- ROR is the move down of its operand (90_conflicts.md C1). -/
theorem rorResult_movedUp (v : Byte) (c : Bool) : MovedUp (rorResult v c).r (rorResult v c).c v c := by
  have hleave : (rorResult v c).c.toNat = v.toNat / 2 ^ 0 % 2 := getLsbD_toNat v 0
  rw [MovedUp, rorResult_toNat]
  omega

/-- ASL is ROL with 0 entering: only ROL takes its doubled operand modulo 256 before the byte is made. -/
theorem aslResult_eq (v : Byte) (c : Bool) : aslResult v c = rolResult v false := by
  have hr : BitVec.ofNat 8 (v.toNat * 2) = BitVec.ofNat 8 (v.toNat * 2 % 256) := by
    apply BitVec.eq_of_toNat_eq
    simp only [BitVec.toNat_ofNat]
    omega
  rw [aslResult, hr]
  rfl

/-- LSR is ROR with 0 entering. -/
theorem lsrResult_eq (v : Byte) (c : Bool) : lsrResult v c = rorResult v false := rfl

theorem rorResult_rolResult (v : Byte) (c : Bool) : rorResult (rolResult v c).r (rolResult v c).c = ⟨v, c⟩ := by
  obtain ⟨hv, hc⟩ := (rorResult_movedUp _ _).source_unique (rolResult_movedUp v c)
  exact congrArg₂ ShiftResult.mk hv hc

theorem rolResult_rorResult (v : Byte) (c : Bool) : rolResult (rorResult v c).r (rorResult v c).c = ⟨v, c⟩ := by
  obtain ⟨hv, hc⟩ := (rolResult_movedUp _ _).target_unique (rorResult_movedUp v c)
  exact congrArg₂ ShiftResult.mk hv hc

/-! ### A shift or rotate of an operand (30_encoding.md R94) -/

/-- The modes of ASL, LSR, ROL and ROR (30_encoding.md R75). -/
def shiftModes : List Mode := [.accumulator, .zeropage, .zeropageX, .absolute, .absoluteX]

theorem operand_mode_mem {i : Instr} {m : Mnemonic} (h : i.mnemonic = m) : i.operand.mode ∈ m.modes :=
  h ▸ of_decide_eq_true (instr_wellFormed i)

/-- An operand of those modes that forms no address is the accumulator. -/
theorem eq_accumulator_of_effectiveAddress_none {o : Operand} {s : State} (ho : o.mode ∈ shiftModes)
    (h : s.effectiveAddress o = none) : o = .accumulator := by
  cases o with
  | accumulator => rfl
  | implied | immediate => simp [shiftModes, Operand.mode] at ho
  | _ => cases h

/-- The address of an operand of those modes depends on X alone: no pointer is read from memory. -/
theorem effectiveAddress_eq_of_x_eq {o : Operand} {s t : State} (ho : o.mode ∈ shiftModes) (hx : t.x = s.x) :
    t.effectiveAddress o = s.effectiveAddress o := by
  cases o with
  | accumulator | zeropage | absolute => rfl
  | zeropageX | absoluteX => simp only [State.effectiveAddress, hx]
  | _ => simp [shiftModes, Operand.mode] at ho

theorem opShift_frame {o : Operand} {s : State} {ea : Word} (f : Byte → Bool → ShiftResult)
    (h : s.effectiveAddress o = some ea) :
    { opShift f o s with mem := s.mem } =
      { s with
        n := (f (s.readByte ea) s.c).r.getLsbD 7, z := decide ((f (s.readByte ea) s.c).r = 0)
        c := (f (s.readByte ea) s.c).c, pc := s.pc + BitVec.ofNat 16 o.mode.length } := by
  rw [opShift_address f h, State.writeByte_eq]
  rfl

theorem opShift_wroteByte {o : Operand} {s : State} {ea : Word} (f : Byte → Bool → ShiftResult)
    (h : s.effectiveAddress o = some ea) : WroteByte ea (f (s.readByte ea) s.c).r s (opShift f o s) := by
  rw [opShift_address f h]
  exact (s.writeByte_wroteByte ea _).congr rfl rfl

theorem storedBack_of_exec {i : Instr} {s : State} {f : Byte → Bool → ShiftResult} (ho : i.operand.mode ∈ shiftModes)
    (hexec : exec i s = .next (opShift f i.operand s)) :
    StoredBack i s (f (s.loadOperand i.operand) s.c).r (f (s.loadOperand i.operand) s.c).c := by
  constructor
  · intro hnone
    rw [hexec, Instr.length, eq_accumulator_of_effectiveAddress_none ho hnone]
    exact congrArg Host.Outcome.next (opShift_accumulator f s)
  · intro ea hea
    rw [State.loadOperand_of_address hea]
    exact ⟨_, hexec, opShift_frame f hea, opShift_wroteByte f hea⟩

/-- Settles O44: ASL and LSR are the two rotates with 0 entering. -/
theorem shiftsMoveByOneBit : Obligations.ShiftsMoveByOneBit := by
  refine ⟨hasForms_of_specRows rfl, hasForms_of_specRows rfl, fun i s hm => ?_, fun i s hm => ?_⟩
  · have moved := rolResult_movedUp (s.loadOperand i.operand) false
    have stored := storedBack_of_exec (operand_mode_mem hm) (exec_of_mnemonic hm s)
    rw [aslResult_eq] at stored
    exact ⟨_, rolResult_toNat _ false, moved.bit_zero, fun k => moved.bit_succ, stored⟩
  · have moved := rorResult_movedUp (s.loadOperand i.operand) false
    have stored := storedBack_of_exec (operand_mode_mem hm) (exec_of_mnemonic hm s)
    rw [lsrResult_eq] at stored
    exact ⟨_, rorResult_toNat _ false, moved.bit_seven, fun k hk => (moved.bit_succ hk).symm, stored⟩

/-- Settles O45: the old carry enters, at bit 0 or at bit 7. -/
theorem rotatesPassThroughTheCarry : Obligations.RotatesPassThroughTheCarry := by
  refine ⟨hasForms_of_specRows rfl, hasForms_of_specRows rfl, fun i s hm => ?_, fun i s hm => ?_⟩
  · have moved := rolResult_movedUp (s.loadOperand i.operand) s.c
    exact ⟨_, rolResult_toNat _ s.c, moved.bit_zero, fun k => moved.bit_succ,
      storedBack_of_exec (operand_mode_mem hm) (exec_of_mnemonic hm s)⟩
  · have moved := rorResult_movedUp (s.loadOperand i.operand) s.c
    exact ⟨_, rorResult_toNat _ s.c, moved.bit_seven, fun k hk => (moved.bit_succ hk).symm,
      storedBack_of_exec (operand_mode_mem hm) (exec_of_mnemonic hm s)⟩

/-! ### One rotate after the other (45_shift_rotate.md R172, R173) -/

theorem WroteByte.readByte_eq {ea : Word} {v : Byte} {s t : State} (h : WroteByte ea v s t) (hram : s.isRam ea) :
    t.readByte ea = v := by
  obtain ⟨-, written, -⟩ := h
  exact written hram

/-- A byte of RAM that is written over, and then written again with what it held, leaves memory as it was. -/
theorem WroteByte.restore {ea : Word} {v : Byte} {s t u : State} (h : WroteByte ea v s t)
    (h' : WroteByte ea (s.readByte ea) t u) (hram : t.isRam ea) (w : Word) : u.readByte w = s.readByte w := by
  by_cases hw : w = ea
  · rw [hw, h'.readByte_eq hram]
  · obtain ⟨others, -, -⟩ := h
    obtain ⟨others', -, -⟩ := h'
    rw [others' w hw, others w hw]

/-- What a shift through an address leaves in A, X and the configuration, and the carry it answers. -/
theorem opShift_registers {o : Operand} {s : State} {ea : Word} (f : Byte → Bool → ShiftResult)
    (h : s.effectiveAddress o = some ea) :
    (opShift f o s).a = s.a ∧ (opShift f o s).x = s.x ∧ (opShift f o s).cfg = s.cfg ∧
      (opShift f o s).c = (f (s.readByte ea) s.c).c := by
  simp [opShift_address f h]

section
variable {f g : Byte → Bool → ShiftResult} {o : Operand} {s : State}

/-- The second shift finds the address where the first did, and there the byte and in C the carry that the first answered. -/
theorem opShift_undo_address {ea : Word} (hundo : ∀ v c, g (f v c).r (f v c).c = ⟨v, c⟩) (ho : o.mode ∈ shiftModes)
    (hea : s.effectiveAddress o = some ea) (hram : s.isRam ea) :
    (opShift g o (opShift f o s)).a = s.a ∧ (opShift g o (opShift f o s)).c = s.c ∧
      ∀ w, (opShift g o (opShift f o s)).readByte w = s.readByte w := by
  have wrote := opShift_wroteByte f hea
  have hread := wrote.readByte_eq hram
  obtain ⟨ha, hx, hcfg, hc⟩ := opShift_registers f hea
  generalize opShift f o s = t at *
  have hea' : t.effectiveAddress o = some ea := (effectiveAddress_eq_of_x_eq ho hx).trans hea
  have hram' : t.isRam ea := by rwa [State.isRam, hcfg]
  have back : g (t.readByte ea) t.c = ⟨s.readByte ea, s.c⟩ := by rw [hread, hc, hundo]
  have wrote' := opShift_wroteByte g hea'
  obtain ⟨ha', -, -, hc'⟩ := opShift_registers g hea'
  rw [back] at wrote' hc'
  exact ⟨ha'.trans ha, hc', wrote.restore wrote' hram'⟩

/-- Two shifts of one operand, the second undoing the first on every byte and carry, restore A, the carry and memory. -/
theorem opShift_undo (hundo : ∀ v c, g (f v c).r (f v c).c = ⟨v, c⟩) (ho : o.mode ∈ shiftModes)
    (hram : ∀ ea, s.effectiveAddress o = some ea → s.isRam ea) :
    (opShift g o (opShift f o s)).a = s.a ∧ (opShift g o (opShift f o s)).c = s.c ∧
      ∀ w, (opShift g o (opShift f o s)).readByte w = s.readByte w := by
  cases hea : s.effectiveAddress o with
  | none =>
    obtain rfl := eq_accumulator_of_effectiveAddress_none ho hea
    have back := hundo s.a s.c
    exact ⟨congrArg ShiftResult.r back, congrArg ShiftResult.c back, State.readByte_congr rfl rfl⟩
  | some ea => exact opShift_undo_address hundo ho hea (hram ea hea)

end

/-- ROL and ROR undo each other, whichever runs first. -/
theorem exec_rotates {i j : Instr}
    (h : (i.mnemonic = .rol ∧ j.mnemonic = .ror) ∨ (i.mnemonic = .ror ∧ j.mnemonic = .rol)) :
    ∃ f g : Byte → Bool → ShiftResult, (∀ s, exec i s = .next (opShift f i.operand s)) ∧
      (∀ s, exec j s = .next (opShift g j.operand s)) ∧ i.operand.mode ∈ shiftModes ∧
      ∀ v c, g (f v c).r (f v c).c = ⟨v, c⟩ := by
  obtain ⟨hi, hj⟩ | ⟨hi, hj⟩ := h
  · exact ⟨_, _, exec_of_mnemonic hi, exec_of_mnemonic hj, operand_mode_mem hi, rorResult_rolResult⟩
  · exact ⟨_, _, exec_of_mnemonic hi, exec_of_mnemonic hj, operand_mode_mem hi, rolResult_rorResult⟩

/-- Settles O46: the two rotates are shifts of one operand by functions that undo each other. -/
theorem rotatesUndoEachOther : Obligations.RotatesUndoEachOther := by
  intro i j s h ho hram
  obtain ⟨f, g, hi, hj, hmode, hundo⟩ := exec_rotates h
  exact ⟨_, _, hi s, ho ▸ hj _, opShift_undo hundo hmode hram⟩

end Sys2Proof.Machine

namespace Sys2Proof.Machine

/-! ### Flag instructions and NOP (46_flag.md R180 to R186, 49_interrupt_other.md R223) -/

/-- Settles O47: each meaning writes its constant to its one flag, NOP's none, and moves PC on by the one byte of an implied
instruction. -/
theorem flagInstructionsWriteOneFlagAndNopNone : Obligations.FlagInstructionsWriteOneFlagAndNopNone := by
  refine ⟨hasForms_of_specRows rfl, hasForms_of_specRows rfl, hasForms_of_specRows rfl, hasForms_of_specRows rfl,
    hasForms_of_specRows rfl, hasForms_of_specRows rfl, hasForms_of_specRows rfl, hasForms_of_specRows rfl, fun s => ?_⟩
  exact ⟨exec_eq_meaning .clc s, exec_eq_meaning .cld s, exec_eq_meaning .cli s, exec_eq_meaning .clv s,
    exec_eq_meaning .sec s, exec_eq_meaning .sed s, exec_eq_meaning .sei s, exec_eq_meaning .nop s⟩

end Sys2Proof.Machine

namespace Sys2Proof.Machine

/-! ### Comparison and the difference it takes (47_compare.md R190) -/

theorem compareDifference_eq_sub (reg m : Byte) : compareDifference reg m = reg - m := by
  simp only [compareDifference, sub_eq_add_neg, BitVec.ofInt_add, BitVec.ofInt_neg, BitVec.ofInt_natCast,
    BitVec.ofNat_toNat, BitVec.setWidth_eq]

/-- With C = 1 there is no borrow to subtract. -/
theorem sbcBinary_true_r (reg m : Byte) : (sbcBinary reg m true).r = reg - m :=
  (congrArg (BitVec.ofInt 8) (sub_zero _)).trans (compareDifference_eq_sub reg m)

theorem sbcBinary_true_z (reg m : Byte) : (sbcBinary reg m true).z = decide (reg = m) := by
  have hz : (sbcBinary reg m true).z = decide ((sbcBinary reg m true).r = 0) := rfl
  rw [hz, sbcBinary_true_r, decide_eq_decide]
  exact sub_eq_zero

theorem sbcBinary_true_c (reg m : Byte) : (sbcBinary reg m true).c = decide (m.toNat ≤ reg.toNat) := by
  rw [sbcBinary, decide_eq_decide, Bool.toNat_true]
  omega

theorem sbcBinary_true_n (reg m : Byte) : (sbcBinary reg m true).n = (reg - m).getLsbD 7 :=
  congrArg negativeFlag (sbcBinary_true_r reg m)

/-! ### CMP, CPX and CPY (47_compare.md R191 to R193) -/

/-- The three comparisons are one operation, each with its register. -/
theorem exec_compare {i : Instr} {s : State} {reg : Byte}
    (h : (i.mnemonic = .cmp ∧ reg = s.a) ∨ (i.mnemonic = .cpx ∧ reg = s.x) ∨ (i.mnemonic = .cpy ∧ reg = s.y)) :
    exec i s = .next (opCompare reg i.operand s) := by
  obtain ⟨hm, rfl⟩ | ⟨hm, rfl⟩ | ⟨hm, rfl⟩ := h <;> exact exec_of_mnemonic hm s

/-- Settles O48: the state is that of `opCompare_eq`, whose N is bit 7 of the modular difference; SBC with C = 1 takes the
same difference. The order is unsigned (decision D16, log 16). -/
theorem comparisonsSetNZC : Obligations.ComparisonsSetNZC := by
  refine ⟨hasForms_of_specRows rfl, hasForms_of_specRows rfl, hasForms_of_specRows rfl, fun i s reg h => ?_,
    fun reg m => ⟨sbcBinary_true_z reg m, sbcBinary_true_c reg m, sbcBinary_true_n reg m⟩⟩
  rw [exec_compare h, opCompare_eq, compareDifference_eq_sub]
  rfl

end Sys2Proof.Machine

namespace Sys2Proof.Machine

/-! ### Runs (60_exceptions.md R232, R251) -/

/-- A run that goes on to its end took its first step, and the rest ran from there. -/
theorem runInputs_cons_next {inp : Inputs} {rest : List Inputs} {s t : State}
    (h : runInputs (inp :: rest) s = .next t) : ∃ u, stepWith inp s = .next u ∧ runInputs rest u = .next t := by
  rw [runInputs] at h
  cases hstep : stepWith inp s with
  | next u => exact ⟨u, rfl, by simpa only [hstep] using h⟩
  | fault f | refused r => simp only [hstep, reduceCtorEq] at h

/-- One step with its inputs keeps memory canonical and the configuration as it was: the inputs are in neither. -/
theorem stepWith_inv_cfg {inp : Inputs} {s t : State} (hs : s.Inv) (h : stepWith inp s = .next t) :
    t.Inv ∧ t.cfg = s.cfg := by
  obtain ⟨hcfg, -, -⟩ := stepsLeaveTheInputsToTheEnvironment (s.withInputs inp.irq inp.nmi) t h
  exact ⟨everyStepKeepsMemoryCanonical (s.withInputs inp.irq inp.nmi) t hs h, hcfg⟩

/-- Settles O21, by induction on the inputs. -/
theorem everyRunKeepsMemoryCanonicalAndTheConfiguration :
    Obligations.EveryRunKeepsMemoryCanonicalAndTheConfiguration := by
  intro inputs
  induction inputs with
  | nil =>
    intro s t hs h
    cases h
    exact ⟨hs, rfl⟩
  | cons inp rest ih =>
    intro s t hs h
    obtain ⟨u, hstep, hrun⟩ := runInputs_cons_next h
    obtain ⟨hu, hcfg⟩ := stepWith_inv_cfg hs hstep
    obtain ⟨ht, hcfg'⟩ := ih u t hu hrun
    exact ⟨ht, hcfg'.trans hcfg⟩

/-! ### Where a step stops (60_exceptions.md R230, 30_encoding.md R77) -/

/-- Settles O54: an instruction's meaning is a state, and its footprint leaves out the configuration and the inputs. -/
theorem everyInstructionCompletes : Obligations.EveryInstructionCompletes := by
  intro i s
  have frame := meaning_within i s
  exact ⟨_, exec_eq_meaning i s, frame.cfg, frame.irqAsserted, frame.nmiPending⟩

theorem State.noInterrupt_of_pendingEntry_none {s : State} (h : s.pendingEntry = none) : NoInterrupt s := by
  have hnmi := State.nmiPending_of_pendingEntry_none h
  refine ⟨hnmi, ?_⟩
  cases hirq : s.irqAsserted with
  | false => exact .inl rfl
  | true =>
    cases hi : s.i with
    | true => exact .inr rfl
    | false => simp [State.pendingEntry, hnmi, hirq, hi] at h

theorem step_of_pendingEntry {s t : State} (h : s.pendingEntry = some t) : step s = .next t := by
  simp only [step, h]

/-- The three bytes fetched decode, unless the first is unlisted: no instruction is longer. -/
theorem State.decode_fetchBytes (s : State) :
    (∃ i rest, decode s.fetchBytes = .ok i rest) ∨
      (s.fetchByte 0 ∈ unlistedOpcodes ∧ decode s.fetchBytes = .error (.unlistedOpcode (s.fetchByte 0))) := by
  cases hop : decodeOpcode (s.fetchByte 0) (s.fetchByte 1) (s.fetchByte 2) with
  | none => exact .inr ⟨(mem_unlistedOpcodes_iff _ _).mpr hop, decode_cons_eq_unlistedOpcode hop⟩
  | some i => exact .inl ⟨i, _, decode_cons_eq_ok_iff.mpr ⟨hop, (Laws.mode_length_bounds i.operand.mode).2, rfl⟩⟩

/-- A step goes on, or takes no interrupt and is refused with the unlisted byte at PC. -/
theorem step_next_or_refused (s : State) :
    (∃ t, step s = .next t) ∨
      (NoInterrupt s ∧ s.fetchByte 0 ∈ unlistedOpcodes ∧ step s = .refused (.unlistedOpcode (s.fetchByte 0))) := by
  cases hp : s.pendingEntry with
  | some t => exact .inl ⟨t, step_of_pendingEntry hp⟩
  | none =>
    have hno := State.noInterrupt_of_pendingEntry_none hp
    rcases s.decode_fetchBytes with ⟨i, rest, hd⟩ | ⟨hun, hd⟩
    · exact .inl ⟨_, (step_of_decode_ok hno hd).trans (exec_eq_meaning i s)⟩
    · exact .inr ⟨hno, hun, step_of_decode_error hno hd⟩

theorem runInputs_cons_of_next {inp : Inputs} {s t : State} (h : stepWith inp s = .next t) (rest : List Inputs) :
    runInputs (inp :: rest) s = runInputs rest t := by
  simp only [runInputs, h]

theorem runInputs_cons_of_refused {inp : Inputs} {s : State} {r : Refusal} (h : stepWith inp s = .refused r)
    (rest : List Inputs) : runInputs (inp :: rest) s = .refused r := by
  simp only [runInputs, h]

/-- A run goes on to its end or is refused with an unlisted byte, by induction on the inputs. -/
theorem runInputs_next_or_refused (inputs : List Inputs) (s : State) :
    (∃ t, runInputs inputs s = .next t) ∨
      ∃ op ∈ unlistedOpcodes, runInputs inputs s = .refused (.unlistedOpcode op) := by
  induction inputs generalizing s with
  | nil => exact .inl ⟨s, rfl⟩
  | cons inp rest ih =>
    rcases step_next_or_refused (s.withInputs inp.irq inp.nmi) with ⟨t, hstep⟩ | ⟨-, hun, hstep⟩
    · rw [runInputs_cons_of_next hstep]
      exact ih t
    · exact .inr ⟨_, hun, runInputs_cons_of_refused hstep rest⟩

/-- Settles O55. -/
theorem onlyAnUnlistedOpcodeStopsTheMachine : Obligations.OnlyAnUnlistedOpcodeStopsTheMachine :=
  ⟨step_next_or_refused, runInputs_next_or_refused⟩

/-- Settles O8: every instruction is well formed, so that hypothesis is not needed. -/
theorem stepRunsTheDecodedInstruction : Obligations.StepRunsTheDecodedInstruction :=
  fun _ _ _ hno _ hd => step_of_decode_ok hno hd

end Sys2Proof.Machine

namespace Sys2Proof.Machine

/-! ### An instruction placed at PC (70_reset_and_hazards.md R264, log 10) -/

/-- Memory answers at address `a`: it is RAM or ROM. -/
def Populated (cfg : Config) (a : Word) : Prop := ∀ reads, cfg.kindAt a.toNat ≠ .unpopulated reads

theorem State.readByte_of_populated {s : State} {a : Word} (h : Populated s.cfg a) :
    s.readByte a = s.mem.read a.toNat := by
  simp only [State.readByte]
  split
  · exact absurd ‹_› (h _)
  · rfl
  · rfl

/-- A region put before the others decides for the addresses it holds. -/
theorem kindAt_cons (cfg : Config) (r : Region) (a : Nat) :
    Config.kindAt { cfg with memMap := r :: cfg.memMap } a =
      if r.base ≤ a ∧ a < r.base + r.size then r.kind else cfg.kindAt a := by
  simp only [Config.kindAt, List.find?_cons]
  split_ifs with hr
  · simp [hr]
  · rw [← Bool.decide_and, decide_eq_false hr]

/-- Populating an address fills it, and empties no other. -/
theorem populate_populated {cfg : Config} {a b : Word} (h : b = a ∨ Populated cfg b) :
    Populated (populate cfg a) b := by
  intro reads
  cases ha : cfg.kindAt a.toNat with
  | unpopulated r =>
    simp only [populate, ha, kindAt_cons]
    split_ifs with hb
    · exact nofun
    · obtain rfl | hpop := h
      · exact absurd ⟨le_rfl, Nat.lt_succ_self _⟩ hb
      · exact hpop reads
  | ram | rom =>
    simp only [populate, ha]
    obtain rfl | hpop := h
    · simp [ha]
    · exact hpop reads

/-- The bytes loaded at three addresses in a row, the wrap of the last ones included, are there to read. -/
theorem State.read_load_three (s : State) (a : Word) (b0 b1 b2 : Byte) :
    (s.load a [b0, b1, b2]).mem.read a.toNat = b0 ∧ (s.load a [b0, b1, b2]).mem.read (a + 1).toNat = b1 ∧
      (s.load a [b0, b1, b2]).mem.read (a + 2).toNat = b2 := by
  have h1 : a.toNat ≠ (a + 1).toNat := by bv_omega
  have h2 : a.toNat ≠ (a + 1 + 1).toNat := by bv_omega
  have h12 : (a + 1).toNat ≠ (a + 1 + 1).toNat := by bv_omega
  have htwo : a + 2 = a + 1 + 1 := by bv_omega
  simp only [State.load, Memory.read_write, htwo, h1, h2, h12, if_true, if_false, and_self]

/-- The three bytes placed at PC are those the next step fetches. -/
theorem State.fetchBytes_placeAtPC (s : State) (b0 b1 b2 : Byte) :
    (s.placeAtPC [b0, b1, b2]).fetchBytes = [b0, b1, b2] := by
  obtain ⟨read0, read1, read2⟩ := s.read_load_three s.pc b0 b1 b2
  have populated {a : Word} (h : a = s.pc ∨ a = s.pc + 1 ∨ a = s.pc + 2) :
      (s.placeAtPC [b0, b1, b2]).readByte a = (s.load s.pc [b0, b1, b2]).mem.read a.toNat := by
    refine State.readByte_of_populated ?_
    obtain rfl | rfl | rfl := h
    · exact populate_populated (.inr (populate_populated (.inr (populate_populated (.inl rfl)))))
    · exact populate_populated (.inr (populate_populated (.inl rfl)))
    · exact populate_populated (.inl rfl)
  have start : s.pc + BitVec.ofNat 16 0 = s.pc := BitVec.add_zero s.pc
  have fetch0 : (s.placeAtPC [b0, b1, b2]).fetchByte 0 = b0 := (populated (.inl start)).trans (start.symm ▸ read0)
  have fetch1 : (s.placeAtPC [b0, b1, b2]).fetchByte 1 = b1 := (populated (.inr (.inl rfl))).trans read1
  have fetch2 : (s.placeAtPC [b0, b1, b2]).fetchByte 2 = b2 := (populated (.inr (.inr rfl))).trans read2
  rw [State.fetchBytes, fetch0, fetch1, fetch2]

/-- Placing leaves no NMI pending, and no IRQ asserted unless I holds it off. -/
theorem State.placeAtPC_noInterrupt (s : State) (bs : List Byte) : NoInterrupt (s.placeAtPC bs) := by
  have irq : (s.placeAtPC bs).irqAsserted = (s.irqAsserted && s.i) := rfl
  have mask : (s.placeAtPC bs).i = s.i := by
    rw [State.placeAtPC, State.load_eq]
  rw [NoInterrupt, irq, mask]
  refine ⟨rfl, ?_⟩
  cases s.i with
  | true => exact .inr rfl
  | false => exact .inl (Bool.and_false s.irqAsserted)

theorem decode_tableBytes_of_decodeTableWord {nbits w : Nat} {i : Instr} (h : decodeTableWord nbits w = some i) :
    ∃ rest, decode (tableBytes nbits w) = .ok i rest := by
  rw [decodeTableWord] at h
  cases hd : decode (tableBytes nbits w) with
  | ok j rest =>
    simp only [hd, Option.some.injEq] at h
    exact ⟨rest, by rw [h]⟩
  | error e => simp only [hd, reduceCtorEq] at h

/-- Settles O7: the step fetches the bytes of the word, and takes no interrupt before them. -/
theorem placedInstructionIsRunByTheNextStep : Obligations.PlacedInstructionIsRunByTheNextStep := by
  intro s nbits w i h
  obtain ⟨rest, hd⟩ := decode_tableBytes_of_decodeTableWord h
  refine step_of_decode_ok (s.placeAtPC_noInterrupt _) (rest := rest) ?_
  rw [← hd]
  exact congrArg decode (s.fetchBytes_placeAtPC _ _ _)

/-! ### Handler entry (60_exceptions.md R235, 20_memory.md R49) -/

theorem stackAddress_ne {p q : Byte} (h : p ≠ q) : stackAddress p ≠ stackAddress q := stackAddress_injective.ne h

/-- The footprint of storing at the addresses of `as`, whatever registers and flags change. -/
def storesAt (as : List Word) : Footprint where
  flag _ := True
  register _ := True
  address a := a ∈ as

/-- Handler entry pushes the two bytes of the return address, then the status byte. -/
theorem State.readByte_enterHandler (ret vector : Word) (b : Bool) (s : State) (a : Word) :
    (s.enterHandler ret vector b).readByte a = ((s.push16 ret).push (s.srByte b)).readByte a :=
  State.readByte_congr rfl rfl a

/-- The third push leaves the first two bytes alone. -/
theorem State.readByte_enterHandler_of_ne {ret vector : Word} {b : Bool} {s : State} {p : Byte} (h : p ≠ s.sp - 2) :
    (s.enterHandler ret vector b).readByte (stackAddress p) = (s.push16 ret).readByte (stackAddress p) := by
  rw [State.readByte_enterHandler, State.readByte_push, State.push16_sp, if_neg fun hat => stackAddress_ne h hat.1]

theorem State.push16_isRam (s : State) (w : Word) (a : Word) : (s.push16 w).isRam a ↔ s.isRam a := by
  rw [State.push16, State.push_isRam, State.push_isRam]

theorem State.readByte_enterHandler_status {ret vector : Word} {b : Bool} {s : State}
    (hram : s.isRam (stackAddress (s.sp - 2))) :
    (s.enterHandler ret vector b).readByte (stackAddress (s.sp - 2)) = s.srByte b := by
  rw [State.readByte_enterHandler, State.readByte_push, State.push16_sp,
    if_pos ⟨rfl, (s.push16_isRam ret _).mpr hram⟩]

/-- PC after handler entry is the word at the vector: the vector is read after the pushes (log 14). -/
theorem State.enterHandler_pc (ret vector : Word) (b : Bool) (s : State) :
    (s.enterHandler ret vector b).pc = (s.enterHandler ret vector b).read16 vector := rfl

/-- What handler entry does, by the interrupts and by BRK. -/
theorem State.handlerEntered (ret vector : Word) (b : Bool) (s : State) :
    HandlerEntered ret vector b s (s.enterHandler ret vector b) := by
  have stored : Within (storesAt [stackAddress s.sp, stackAddress (s.sp - 1), stackAddress (s.sp - 2)]) s
      (s.enterHandler ret vector b) :=
    enterHandler_within trivial trivial (by simp [storesAt]) ret vector b
  have h0 : s.sp ≠ s.sp - 2 := by bv_omega
  have h1 : s.sp - 1 ≠ s.sp - 2 := by bv_omega
  refine ⟨?_, stored.memory, fun hram => ?_, fun hram => ?_, State.readByte_enterHandler_status⟩
  · rw [← State.enterHandler_pc, State.enterHandler_eq]
  · rw [State.readByte_enterHandler_of_ne h0, State.readByte_push16_high ret hram]
  · rw [State.readByte_enterHandler_of_ne h1, State.readByte_push16_low ret hram]

/-- Settles O11: an interrupt enters with PC as the return address. -/
theorem interruptEntryPushesPCAndStatusAndSetsI : Obligations.InterruptEntryPushesPCAndStatusAndSetsI :=
  ⟨fun s vector b => s.handlerEntered s.pc vector b, fun s => s.handlerEntered s.pc s.cfg.vecIrq false,
    fun s => (s.setNmi false).handlerEntered s.pc s.cfg.vecNmi false, fun _ _ => operandWord_toNat _ _⟩

/-- Settles O15: the byte after BRK is left over by the decoder, and its meaning is a handler entry. -/
theorem brkEntersTheHandler : Obligations.BrkEntersTheHandler :=
  ⟨hasForms_of_specRows rfl, rfl, rfl, fun b1 b2 => decode_encode .brk [b1, b2],
    fun s => ⟨_, exec_eq_meaning .brk s, s.handlerEntered (s.pc + 2) s.cfg.vecBrk true⟩⟩

/-! ### Which entry a step takes (60_exceptions.md R232 to R234, R237) -/

theorem State.pendingEntry_of_nmi {s : State} (h : s.nmiPending = true) : s.pendingEntry = some s.takeNmi := by
  simp only [State.pendingEntry, h, if_true]

theorem State.pendingEntry_of_irq {s : State} (hnmi : s.nmiPending = false) (hirq : s.irqAsserted = true)
    (hi : s.i = false) : s.pendingEntry = some s.takeIrq := by
  simp [State.pendingEntry, hnmi, hirq, hi]

theorem State.takeInterrupt_i (vector : Word) (b : Bool) (s : State) : (s.takeInterrupt vector b).i = true := rfl

/-- Settles O10: with I set by the IRQ entry, and no NMI, nothing is taken after it. -/
theorem interruptsAreTakenBeforeTheInstruction : Obligations.InterruptsAreTakenBeforeTheInstruction := by
  refine ⟨fun s hnmi => ?_, fun s hnmi hirq hi => ?_, fun s hnmi _ hi i rest hd => ?_, fun s irq event h => ?_⟩
  · exact step_of_pendingEntry (State.pendingEntry_of_nmi hnmi)
  · obtain ⟨-, irqKept, nmiKept⟩ := s.takeInterrupt_inputs s.cfg.vecIrq false
    have masked := s.takeInterrupt_i s.cfg.vecIrq false
    exact ⟨_, step_of_pendingEntry (State.pendingEntry_of_irq hnmi hirq hi), rfl, irqKept.trans hirq, masked,
      State.pendingEntry_of_noInterrupt ⟨nmiKept.trans hnmi, .inr masked⟩⟩
  · exact step_of_decode_ok ⟨hnmi, .inr hi⟩ hd
  · exact step_of_pendingEntry (State.pendingEntry_of_nmi (s := s.withInputs irq event) h)

/-! ### Return from a handler (49_interrupt_other.md R221, 60_exceptions.md R238) -/

/-- The return from a handler sets the flags from the first byte above SP and PC from the next two. -/
theorem State.leaveHandler_eq (s : State) :
    s.leaveHandler = { s.setSR (s.readByte (stackAddress (s.sp + 1))) with
      sp := s.sp + 3
      pc := operandWord (s.readByte (stackAddress (s.sp + 2))) (s.readByte (stackAddress (s.sp + 3))) } := by
  have two : s.sp + 2 = s.sp + 1 + 1 := by bv_omega
  have three : s.sp + 3 = s.sp + 1 + 1 + 1 := by bv_omega
  rw [two, three]
  rfl

theorem exec_rti (s : State) : exec .rti s = .next s.leaveHandler := exec_eq_meaning .rti s

/-- Settles O16. -/
theorem rtiPullsFlagsThenPC : Obligations.RtiPullsFlagsThenPC :=
  ⟨hasForms_of_specRows rfl, fun s => (exec_rti s).trans (congrArg Host.Outcome.next s.leaveHandler_eq)⟩

/-- Settles O14: the three bytes pulled are the status byte and the two bytes of PC that the entry pushed. -/
theorem rtiReturnsFromTheHandler : Obligations.RtiReturnsFromTheHandler := by
  intro s t vector b hram0 hram1 hram2 hsp hbytes
  obtain ⟨-, -, high, low, status⟩ := s.handlerEntered s.pc vector b
  have hsp : t.sp = s.sp - 3 := by rw [hsp, State.takeInterrupt, State.enterHandler_eq]
  have one : t.sp + 1 = s.sp - 2 := by rw [hsp]; bv_omega
  have two : t.sp + 2 = s.sp - 1 := by rw [hsp]; bv_omega
  have three : t.sp + 3 = s.sp := by rw [hsp]; bv_omega
  have hstatus : t.readByte (stackAddress (s.sp - 2)) = s.srByte b := (hbytes _ (by simp)).trans (status hram2)
  have hlow : t.readByte (stackAddress (s.sp - 1)) = lowByte s.pc := (hbytes _ (by simp)).trans (low hram1)
  have hhigh : t.readByte (stackAddress s.sp) = highByte s.pc := (hbytes _ (by simp)).trans (high hram0)
  rw [exec_rti, State.leaveHandler_eq, one, two, three, hstatus, hlow, hhigh, State.setSR_srByte,
    operandWord_lowByte_highByte]

/-! ### Reset (70_reset_and_hazards.md R260) -/

/-- Settles O17: the definition of reset, field by field. -/
theorem resetSetsIAndLoadsPCFromTheVector : Obligations.ResetSetsIAndLoadsPCFromTheVector := fun _ _ => rfl

end Sys2Proof.Machine

namespace Sys2Proof.Machine

/-! ### Branches (48_branch_jump.md R200 to R208) -/

/-- A branch on a flag at 1, as one record. -/
theorem exec_branch_on_set {i : Instr} {flag : Bool} {b : Byte} {s : State}
    (h : exec i s = .next (branchIf flag (.relative b) s)) :
    exec i s = .next { s with pc := if flag = true then s.pc + 2 + b.signExtend 16 else s.pc + 2 } := by
  rw [h]
  cases flag <;> rfl

/-- A branch on a flag at 0, as one record. -/
theorem exec_branch_on_clear {i : Instr} {flag : Bool} {b : Byte} {s : State}
    (h : exec i s = .next (branchIf (!flag) (.relative b) s)) :
    exec i s = .next { s with pc := if flag = false then s.pc + 2 + b.signExtend 16 else s.pc + 2 } := by
  rw [h]
  cases flag <;> rfl

/-- Settles O49: four branches test their flag for 1, four for 0. -/
theorem branchesTestOneFlag : Obligations.BranchesTestOneFlag := by
  refine ⟨hasForms_of_specRows rfl, hasForms_of_specRows rfl, hasForms_of_specRows rfl, hasForms_of_specRows rfl,
    hasForms_of_specRows rfl, hasForms_of_specRows rfl, hasForms_of_specRows rfl, hasForms_of_specRows rfl,
    fun s b => ?_⟩
  exact ⟨exec_branch_on_clear (exec_eq_meaning (.bcc b) s), exec_branch_on_set (exec_eq_meaning (.bcs b) s),
    exec_branch_on_set (exec_eq_meaning (.beq b) s), exec_branch_on_set (exec_eq_meaning (.bmi b) s),
    exec_branch_on_clear (exec_eq_meaning (.bne b) s), exec_branch_on_clear (exec_eq_meaning (.bpl b) s),
    exec_branch_on_clear (exec_eq_meaning (.bvc b) s), exec_branch_on_set (exec_eq_meaning (.bvs b) s)⟩

/-! ### Jumps (48_branch_jump.md R210) -/

/-- JMP in either form goes to the address its operand forms. -/
theorem exec_jmp {i : Instr} {s : State} {target : Word} (hm : i.mnemonic = .jmp)
    (h : s.effectiveAddress i.operand = some target) : exec i s = .next (s.setPC target) := by
  rw [exec_of_mnemonic hm, meaning, opJump_eq h]

/-- Settles O50: setting PC to its own value changes nothing. -/
theorem jumpsWritePCAlone : Obligations.JumpsWritePCAlone :=
  ⟨hasForms_of_specRows rfl, fun _ _ => exec_jmp rfl rfl, fun _ _ => ⟨_, rfl, exec_jmp rfl rfl⟩,
    fun _ => exec_jmp rfl rfl⟩

/-! ### Subroutines (48_branch_jump.md R211 to R213) -/

theorem exec_jsr (s : State) (w : Word) : exec (.jsr w) s = .next ((s.push16 (s.pc + 2)).setPC w) :=
  exec_eq_meaning (.jsr w) s

theorem exec_rts (s : State) :
    exec .rts s = .next { s with
      sp := s.sp + 2
      pc := operandWord (s.readByte (stackAddress (s.sp + 1))) (s.readByte (stackAddress (s.sp + 2))) + 1 } := by
  have two : s.sp + 2 = s.sp + 1 + 1 := by bv_omega
  rw [two]
  exact exec_eq_meaning .rts s

/-- JSR writes no register but SP and PC. -/
theorem State.push16_setPC_frame (s : State) (v w : Word) :
    { (s.push16 v).setPC w with mem := s.mem } = { s with sp := s.sp - 2, pc := w } := by
  rw [State.push16_eq]
  rfl

/-- Settles O51: JSR's stores are those of its footprint. -/
theorem subroutinesSaveAndRestorePC : Obligations.SubroutinesSaveAndRestorePC := by
  refine ⟨hasForms_of_specRows rfl, hasForms_of_specRows rfl, fun s w => ?_, exec_rts⟩
  exact ⟨_, exec_jsr s w, s.push16_setPC_frame _ w, memoryChangesOnlyWhereAnInstructionStores _ _ _ (exec_jsr s w),
    fun hhigh => State.readByte_push16_high (s.pc + 2) hhigh, fun hlow => State.readByte_push16_low (s.pc + 2) hlow⟩

/-- Settles O52: the word pulled is PC + 2, which RTS adds one to. -/
theorem rtsReturnsAfterTheJsr : Obligations.RtsReturnsAfterTheJsr := by
  intro s t u w hhigh hlow hjsr hsp hbytes
  obtain rfl : (s.push16 (s.pc + 2)).setPC w = t := Host.Outcome.next.inj ((exec_jsr s w).symm.trans hjsr)
  have hsp : u.sp = s.sp - 2 := hsp.trans (State.push16_sp _ s)
  have one : u.sp + 1 = s.sp - 1 := by rw [hsp]; bv_omega
  have two : u.sp + 2 = s.sp := by rw [hsp]; bv_omega
  have low : u.readByte (stackAddress (s.sp - 1)) = lowByte (s.pc + 2) :=
    (hbytes _ (by simp)).trans (State.readByte_push16_low _ hlow)
  have high : u.readByte (stackAddress s.sp) = highByte (s.pc + 2) :=
    (hbytes _ (by simp)).trans (State.readByte_push16_high _ hhigh)
  have next : s.pc + 2 + 1 = s.pc + 3 := by bv_omega
  rw [exec_rts, one, two, low, high, operandWord_lowByte_highByte, next]

/-! ### BIT (49_interrupt_other.md R222) -/

/-- Settles O53: both forms have an address, and the operand is the byte there. -/
theorem bitTestsAByteOfMemory : Obligations.BitTestsAByteOfMemory := by
  refine ⟨hasForms_of_specRows rfl, fun i s hm => ?_⟩
  obtain ⟨ea, hea⟩ := exists_effectiveAddress_of_specRows hm (by decide) s
  refine ⟨ea, hea, ?_⟩
  rw [← State.loadOperand_of_address hea]
  exact (exec_of_mnemonic hm s).trans (congrArg Host.Outcome.next (opBit_eq i.operand s))

/-! ### Cycles by mode and mark (70_reset_and_hazards.md R272, 30_encoding.md R89) -/

/-- The cycle figure of the instructions that read their operand, by mode (30_encoding.md R75). -/
def readFigure : Mode → Nat
  | .immediate => 2
  | .zeropage => 3
  | .zeropageX | .zeropageY | .absolute | .absoluteX | .absoluteY => 4
  | .indirectY => 5
  | .indirectX => 6
  | _ => 0

/-- Their mark: the modes that index across pages. -/
def readMark : Mode → CycleMark
  | .absoluteX | .absoluteY | .indirectY => .pageCross
  | _ => .none

/-- The cycle figure of the stores, by mode (30_encoding.md R75). -/
def storeFigure : Mode → Nat
  | .zeropage => 3
  | .zeropageX | .zeropageY | .absolute => 4
  | .absoluteX | .absoluteY => 5
  | .indirectX | .indirectY => 6
  | _ => 0

/-- The cycle figure of the read-modify-write instructions, by mode (30_encoding.md R75). -/
def modifyFigure : Mode → Nat
  | .accumulator => 2
  | .zeropage => 5
  | .zeropageX | .absolute => 6
  | .absoluteX => 7
  | _ => 0

section
variable {i : Instr} {s : State}

/-- What the rows of some mnemonics have in common, of their figure and mark, their instructions have. -/
theorem figure_mark_of_specRows {ms : List Mnemonic} {figure : Mode → Nat} {mark : Mode → CycleMark}
    (h : ∀ m ∈ ms, ∀ row ∈ specRows m, row.cycles = figure row.mode ∧ row.mark = mark row.mode)
    (hm : i.mnemonic ∈ ms) : baseCycles i = figure i.operand.mode ∧ cycleMark i = mark i.operand.mode :=
  h i.mnemonic hm (rowOf i) (rowOf_mem_specRows i)

theorem cycles_of_unmarked (hmark : cycleMark i = .none) : cycles i s = baseCycles i := by
  simp only [cycles, extraCycles, hmark, Nat.add_zero]

theorem cycles_of_pageCross {figure : Nat} {crossed : Prop} [Decidable crossed] (hfigure : baseCycles i = figure)
    (hmark : cycleMark i = .pageCross) (hcrossed : s.pageCrossed i.operand = true ↔ crossed) :
    cycles i s = if crossed then figure + 1 else figure := by
  simp only [cycles, extraCycles, hmark, hfigure, hcrossed]
  split_ifs <;> rfl

theorem cycles_of_branch {b : Byte} (hmark : cycleMark i = .branch) (ho : i.operand = .relative b) :
    cycles i s =
      if s.branchTaken i.mnemonic then
        if highByte (branchTarget s.pc b) = highByte (s.pc + 2) then baseCycles i + 1 else baseCycles i + 2
      else baseCycles i := by
  simp only [cycles, extraCycles, hmark, ho, State.effectiveAddress]
  split_ifs <;> rfl

theorem pageCrossed_absoluteX_iff (w : Word) :
    s.pageCrossed (.absoluteX w) = true ↔ 256 ≤ w.toNat % 256 + s.x.toNat :=
  decide_eq_true_iff.trans (highByte_add_index_ne_iff w s.x)

theorem pageCrossed_absoluteY_iff (w : Word) :
    s.pageCrossed (.absoluteY w) = true ↔ 256 ≤ w.toNat % 256 + s.y.toNat :=
  decide_eq_true_iff.trans (highByte_add_index_ne_iff w s.y)

/-- The low byte of the pointer is the one read at the operand. -/
theorem pageCrossed_indirectY_iff (b : Byte) :
    s.pageCrossed (.indirectY b) = true ↔ 256 ≤ (s.readByte (b.setWidth 16)).toNat + s.y.toNat := by
  have low : (s.zeroPagePointer b).toNat % 256 = (s.readByte (b.setWidth 16)).toNat := by
    have := (s.readByte (zeroPage b)).isLt
    rw [State.zeroPagePointer, operandWord_toNat]
    change _ = (s.readByte (zeroPage b)).toNat
    omega
  rw [← low]
  exact decide_eq_true_iff.trans (highByte_add_index_ne_iff _ s.y)

end

/-- Settles O59: figure and mark from the rows of the table, and the mark's addition from page crossing or the branch. -/
theorem cyclesFollowTheModeAndTheMarks : Obligations.CyclesFollowTheModeAndTheMarks := by
  refine ⟨fun i s hm => ?_, fun i s hm => ?_, fun i s hm => ?_, fun i s b ho => ?_⟩
  · obtain ⟨figure, mark⟩ := figure_mark_of_specRows (figure := readFigure) (mark := readMark) (by decide) hm
    generalize ho : i.operand = o at figure mark ⊢
    cases o with
    | absoluteX w => exact cycles_of_pageCross figure mark (ho ▸ pageCrossed_absoluteX_iff w)
    | absoluteY w => exact cycles_of_pageCross figure mark (ho ▸ pageCrossed_absoluteY_iff w)
    | indirectY b => exact cycles_of_pageCross figure mark (ho ▸ pageCrossed_indirectY_iff b)
    | _ => exact (cycles_of_unmarked mark).trans figure
  · obtain ⟨figure, mark⟩ := figure_mark_of_specRows (figure := storeFigure) (mark := fun _ => .none) (by decide) hm
    rw [cycles_of_unmarked mark, figure]
    cases i.operand.mode <;> rfl
  · obtain ⟨figure, mark⟩ := figure_mark_of_specRows (figure := modifyFigure) (mark := fun _ => .none) (by decide) hm
    rw [cycles_of_unmarked mark, figure]
    cases i.operand.mode <;> rfl
  · obtain ⟨figure, mark⟩ : baseCycles i = 2 ∧ cycleMark i = .branch := by
      refine forall_instr_of_specRows (P := fun _ row => row.mode = .relative → row.cycles = 2 ∧ row.mark = .branch)
        (fun m => ?_) i (congrArg Operand.mode ho)
      cases m <;> decide
    rw [cycles_of_branch mark ho, figure]

end Sys2Proof.Machine
